-- ==== Sys2Proof/Word.lean ====
section
/-! DEFINITION. The byte and the byte run: what a port receives and sends, and what the serial flash holds.
Quantities that the manual counts (times, counters, indexes, priorities) are natural numbers held in the ranges
the rules give; only what the manual treats as bits is a bit vector. -/

namespace Sys2Proof

/-- One byte of a frame or of the serial flash. -/
abbrev Byte := BitVec 8

/-- A run of bytes: a frame as received or sent, a payload, the data of a flash block. -/
abbrev Bytes := List Byte

/-- A field address conc.chan.point as one 20-bit number (Conventions; R133 compares it bit by bit). -/
abbrev FieldAddress := BitVec 20

end Sys2Proof
end

