-- ==== Sys2Proof/Config.lean ====
section
/-! DEFINITION. The capacities and ends of range that the manual fixes for the part (00_scope.md, Capacities, and the
rules named). The manual leaves no result value of any command open, so no free value stands here; what it leaves open
in wording or order is a marked choice of the assumption log. -/

namespace Sys2Proof

/-- Asset indexes 0..32,767 (R1). -/
def Config.assetLimit : Nat := 32768

/-- Sources, one for each node number 0..63 (R152). -/
def Config.sourceLimit : Nat := 64

/-- Trunk Map entries, source × 16 + channel (R127). -/
def Config.trunkLimit : Nat := 1024

/-- Parent links an ancestor walk reads (R14). -/
def Config.ancestorLinks : Nat := 4

/-- Places of the Sweep Queue, the running job included (R49). -/
def Config.sweepPlaces : Nat := 8

/-- Places of the Notice Queue (R104). -/
def Config.noticePlaces : Nat := 256

/-- Entries at which STAT source 5 is asserted (R125). -/
def Config.noticeHighWater : Nat := 192

/-- Frames each forward FIFO holds (R166). -/
def Config.fifoPlaces : Nat := 16

/-- Waiting frames the Command Queue holds (R172). -/
def Config.commandPlaces : Nat := 4

/-- Bytes a receive buffer keeps (R163). -/
def Config.receiveBytes : Nat := 247

/-- Greatest payload length of a frame (R159). -/
def Config.payloadLimit : Nat := 240

/-- Where the counters and the flap score stop (R31). -/
def Config.countTop : Nat := 65535

/-- Where a storm bucket's count stops (R41). -/
def Config.bucketTop : Nat := 4095

/-- Where the time base holds (R29). -/
def Config.timeTop : Nat := 4294967295

/-- Greatest priority (R31), eligible at every floor (R108). -/
def Config.priorityTop : Nat := 31

/-- Notices of this priority or more pass ahead of forwarded frames (R168). -/
def Config.urgentPriority : Nat := 24

/-- Bytes of the serial flash, 1 MiB (R186). -/
def Config.flashBytes : Nat := 1048576

/-- Bytes of one flash block (R186). -/
def Config.flashBlock : Nat := 128

/-- Blocks of the serial flash (R186). -/
def Config.flashBlocks : Nat := 8192

end Sys2Proof
end

