-- ==== Sys2Proof/Syntax.lean ====
section
/-! DEFINITION. The commands of the part: one constructor for each row of spec/opcode_table.json. Each is one whole and
indivisible step (95_what_each_step_holds.md). The rows give no operand fields and no bits. An event from outside carries
what the outside supplies (the bytes of a frame and whether it began too early to be received, the strap pins, the source
whose window ran out). A management command's
row carries nothing: its tag and its arguments are those of the MGMT frame that the Management Agent is executing (R173). -/

namespace Sys2Proof

/-- A frame as its line delivers it. -/
structure Arrival where
  /-- The bytes of the frame, all of them. -/
  bytes : Bytes
  /-- Its first byte arrived before the receivers were enabled, so it is not received (R163). -/
  early : Bool
  deriving DecidableEq, Repr

/-- A command of the part. -/
inductive Instr where
  /-- RESET_ASSERT (R185): RSTN is driven low. -/
  | resetAssert
  /-- POWER_ON_RESET_RELEASE (R185): RSTN is released with NODE5..NODE0 at `node`, MODE1..MODE0 at `modePins`
  and BOOT at `boot`. -/
  | powerOnResetRelease (node modePins : Nat) (boot : Bool)
  /-- INIT_END (R2, R145, R185): the clearing of the record memory completes. -/
  | initEnd
  /-- TIME_BASE_ADVANCE (R29): one second of REFCLK has passed. -/
  | timeBaseAdvance
  /-- LINK_WATCHDOG_EXPIRY (R149): the watchdog test of the last advance finds its window run out. -/
  | linkWatchdogExpiry
  /-- SOURCE_SILENT (R156): the silence test of the last advance finds the window of `source` run out. -/
  | sourceSilent (source : Nat)
  /-- LINE_SIGNAL_LOSS (R146): FSIG is lost. -/
  | lineSignalLoss
  /-- LINE_SIGNAL_RETURN (R146): FSIG returns. -/
  | lineSignalReturn
  /-- F_PORT_FRAME_RECEIVED (R163): a whole frame ends on the F-port. -/
  | fPortFrameReceived (frame : Arrival)
  /-- D_PORT_FRAME_RECEIVED (R163): a whole frame ends on the D-port. -/
  | dPortFrameReceived (frame : Arrival)
  /-- F_PORT_FRAME_SENT (R167): the last byte of the frame on the F-port has been sent. -/
  | fPortFrameSent
  /-- D_PORT_FRAME_SENT (R168): the last byte of the frame on the D-port has been sent. -/
  | dPortFrameSent
  /-- SCANNER_VISIT (R87): the Silence Scanner visits the record at the scan position. -/
  | scannerVisit
  /-- SWEEP_STEP (R53): the Sweep Engine takes a step for the running job. -/
  | sweepStep
  /-- BOOT_REPLAY_FRAME (R187): the boot replay takes up the next frame start. -/
  | bootReplayFrame
  /-- MGMT_BAD_VECTOR (R175): the frame executing has no known vector, or no room for vector and tag. -/
  | mgmtBadVector
  /-- STATUS (R177), vector 1. -/
  | status
  /-- CONFIG (R178), vector 2. -/
  | config
  /-- TIME_SET (R179), vector 3. -/
  | timeSet
  /-- SET_MODE (R180), vector 4. -/
  | setMode
  /-- RESTART_CLEAR (R182), vector 5 with a level other than 1. -/
  | restartClear
  /-- RESTART_FULL (R182), vector 5 with level 1. -/
  | restartFull
  /-- CLEARING_END (R182): the internal clearing of record memory completes. -/
  | clearingEnd
  /-- READ_COUNTERS_PORT (R181), vector 6 with a group other than 1. -/
  | readCountersPort
  /-- READ_COUNTERS_SOURCE (R181), vector 6 with group 1. -/
  | readCountersSource
  /-- LOAD_BEGIN (R183), vector 8. -/
  | loadBegin
  /-- LOAD_END (R141), vector 9. -/
  | loadEnd
  /-- VALIDATION_END (R142): the five checks complete. -/
  | validationEnd
  /-- CLASS_WRITE (R137), vector 10. -/
  | classWrite
  /-- TEMPLATE_WRITE (R138), vector 11. -/
  | templateWrite
  /-- ASSET_WRITE (R139), vector 12. -/
  | assetWrite
  /-- TRUNK_WRITE (R140), vector 13. -/
  | trunkWrite
  /-- QUERY_ASSET (R77), vector 16. -/
  | queryAsset
  /-- QUERY_LIST (R80), vector 17. -/
  | queryList
  /-- ACK_FAULT (R76), vector 18. -/
  | ackFault
  /-- ACK_RESTORED (R78), vector 19. -/
  | ackRestored
  /-- SET_SERVICE_OUT (R22), vector 20 with a direction other than 1. -/
  | setServiceOut
  /-- SET_SERVICE_IN (R24), vector 20 with direction 1. -/
  | setServiceIn
  /-- STORM_ON (R113), vector 24 with action 1. -/
  | stormOn
  /-- STORM_OFF (R114), vector 24 with an action other than 1. -/
  | stormOff
  /-- ESC_ARM (R120), vector 25. -/
  | escArm
  /-- ESC_ACK (R121), vector 26. -/
  | escAck
  /-- FLASH_ERASE (R186), vector 30. -/
  | flashErase
  /-- FLASH_ERASE_BLOCK (R186): the erase of the block in progress completes. -/
  | flashEraseBlock
  /-- FLASH_WRITE (R186), vector 31. -/
  | flashWrite
  /-- FLASH_WRITE_END (R186): the write of the block in progress completes. -/
  | flashWriteEnd
  deriving DecidableEq, Repr

end Sys2Proof
end

