-- ==== Sys2Proof/WellFormed.lean ====
section
/-! DEFINITION. Which commands the outside can give: the strap pins are six and two (00_scope.md, Pin summary), and a source
is a node number 0..63 (R152). A received run of bytes may be of any length (R163), so the frame events carry no
check, and neither do the commands without operands. -/

namespace Sys2Proof

/-- The operands of a command lie in what the pins and the Source Table can name. -/
def Instr.wellFormed : Instr → Bool
  | .powerOnResetRelease node modePins _ => decide (node < 64) && decide (modePins < 4)
  | .sourceSilent source => decide (source < Config.sourceLimit)
  | .fPortFrameReceived _ | .dPortFrameReceived _ => true
  | .resetAssert | .initEnd | .timeBaseAdvance | .linkWatchdogExpiry | .lineSignalLoss | .lineSignalReturn
  | .fPortFrameSent | .dPortFrameSent | .scannerVisit | .sweepStep | .bootReplayFrame | .mgmtBadVector | .status
  | .config | .timeSet | .setMode | .restartClear | .restartFull | .clearingEnd | .readCountersPort
  | .readCountersSource | .loadBegin | .loadEnd | .validationEnd | .classWrite | .templateWrite | .assetWrite
  | .trunkWrite | .queryAsset | .queryList | .ackFault | .ackRestored | .setServiceOut | .setServiceIn | .stormOn
  | .stormOff | .escArm | .escAck | .flashErase | .flashEraseBlock | .flashWrite | .flashWriteEnd => true

end Sys2Proof
end

