-- ==== Sys2Proof/Decode.lean ====
section
/-! DEFINITION. The command that a word spells by the table's bits. spec/opcode_table.json gives bits to none of its 46 rows
(98_reader.md: n_rows_with_fixed 0), so no word spells a command. The management commands do have a byte layout, that of
the MGMT payload (R161, R176); it is decoded where the agent executes a frame (Machine/Operands.lean). -/

namespace Sys2Proof

/-- The command a table word spells: none, as the table gives no row any bits. -/
def decodeTableWord (_nbits _w : Nat) : Option Instr := none

end Sys2Proof
end

