-- ==== Sys2Proof/Machine/Table.lean ====
section
/-! DEFINITION. Keyed memory: the record memory, the loaded tables, the Source Table, the rate buckets and the serial flash.
A memory is a list of (key, value) pairs in one canonical form: keys strictly rising, and no value equal to what an unlisted
key reads as. Writing that value removes the entry, so equal memories are equal lists. -/

namespace Sys2Proof.Machine

/-- A keyed memory. What an unlisted key reads as is given by each read and write. -/
abbrev Table (α : Type) := List (Nat × α)

/-- The value at a key; `d` where the key is unlisted. -/
def tableGet {α : Type} (d : α) : Table α → Nat → α
  | [], _ => d
  | (k, v) :: rest, i => if i = k then v else tableGet d rest i

/-- The memory with `x` at key `i`, in canonical form. -/
def tableSet {α : Type} [DecidableEq α] (d : α) : Table α → Nat → α → Table α
  | [], i, x => if x = d then [] else [(i, x)]
  | (k, v) :: rest, i, x =>
    if i < k then (if x = d then (k, v) :: rest else (i, x) :: (k, v) :: rest)
    else if i = k then (if x = d then rest else (i, x) :: rest)
    else (k, v) :: tableSet d rest i x

/-- The memory with every listed value changed by `f`. The caller's `f` leaves `d` as it is, so unlisted keys follow. -/
def tableMap {α : Type} [DecidableEq α] (d : α) (f : Nat → α → α) (t : Table α) : Table α :=
  (t.map fun e => (e.1, f e.1 e.2)).filter fun e => decide (e.2 ≠ d)

/-- The memory without its entries at keys `lo ≤ k < lo + n`, so that these read as unlisted. -/
def tableErase {α : Type} (t : Table α) (lo n : Nat) : Table α :=
  t.filter fun e => decide (e.1 < lo ∨ lo + n ≤ e.1)

/-- The memory with the values `xs` at the keys from `i` upward. -/
def tableSetAll {α : Type} [DecidableEq α] (d : α) (t : Table α) (i : Nat) : List α → Table α
  | [] => t
  | x :: xs => tableSetAll d (tableSet d t i x) (i + 1) xs

/-- The canonical form: keys strictly rising, no value that an unlisted key reads as. -/
abbrev Table.wf {α : Type} (d : α) (t : Table α) : Prop :=
  t.Pairwise (fun a b => a.1 < b.1) ∧ ∀ e ∈ t, e.2 ≠ d

/-- The addressed memory of the part, its serial flash: (address, byte) pairs, `Host.Cell`s (R186). -/
abbrev Memory := Table Byte

/-- What an unlisted flash byte reads as: an erased byte (R186: erased bytes hold 0xFF). DESIGN CHOICE for a byte
that nothing has erased or written since manufacture (log entry 3). -/
def erasedByte : Byte := 0xFF#8

/-- The canonical form of the flash. -/
abbrev Memory.wf (m : Memory) : Prop := Table.wf erasedByte m

end Sys2Proof.Machine
end

