-- ==== Sys2Proof/Machine/Types.lean ====
section
/-! DEFINITION. The named states, codes and records of the part's blocks (00_scope.md, Block diagram), with the ranges the
rules give. A value the manual may leave absent is an Option. -/

namespace Sys2Proof.Machine

/-! ### Fault records (R1) -/

/-- The condition of a fault record (R1). -/
inductive Condition where
  | unknown | normal | suspect | fault | recovering | silent | outOfService
  deriving DecidableEq, Repr

/-- The severity of a record or notice (R1). -/
inductive Severity where
  | none | minor | major
  deriving DecidableEq, Repr

/-- The status of an item (R160). -/
inductive Status where
  | ok | degraded | failed
  deriving DecidableEq, Repr

/-- The latch of a record (R74). -/
inductive Latch where
  | clear | held
  deriving DecidableEq, Repr

/-- A fault record (R1). Its predecessor and successor are held by the board's list (`State.board`). -/
structure FaultRecord where
  /-- State of the condition machine. -/
  condition : Condition
  /-- Severity of the fault standing or last ended. -/
  severity : Severity
  /-- 0..15, consecutive items toward qualification or restoration. -/
  run : Nat
  /-- The root the fault is attributed to. -/
  cause : Option Nat
  /-- 0..32,767, records whose cause is this asset. -/
  dependents : Nat
  /-- HELD keeps the entry on the board. -/
  latch : Latch
  /-- Status of the last item that reached flap scoring. -/
  lastStatus : Option Status
  /-- 0..255, detail code of the last item processed. -/
  lastDetail : Nat
  /-- 0..65,535 or absent, measured value of the last item processed. -/
  lastValue : Option Nat
  /-- Time of the last item processed. -/
  lastHeard : Option Nat
  /-- 0..63, source of the last item processed. -/
  lastSource : Option Nat
  /-- Time of the most recent qualification. -/
  qualifiedAt : Option Nat
  /-- Time the record last joined the Active Fault List. -/
  joinedAt : Option Nat
  /-- 0..65,535, decaying count of alternations. -/
  flapScore : Nat
  /-- Time to which the flap score has been decayed. -/
  flapStamp : Nat
  /-- The flapping mark. -/
  flapping : Bool
  /-- End of a test holdoff. -/
  testUntil : Option Nat
  deriving DecidableEq, Repr

/-- The record clear of R1. -/
def clearRecord : FaultRecord where
  condition := .unknown
  severity := .none
  run := 0
  cause := none
  dependents := 0
  latch := .clear
  lastStatus := none
  lastDetail := 0
  lastValue := none
  lastHeard := none
  lastSource := none
  qualifiedAt := none
  joinedAt := none
  flapScore := 0
  flapStamp := 0
  flapping := false
  testUntil := none

/-! ### Loaded tables (R127, R130, R131, R133) -/

/-- A valid Trunk Map entry (R127): `length` points from point 0 map to the asset indexes from `base`. An invalid entry
holds no base and length that anything uses, and is `none`. -/
structure TrunkRun where
  /-- 0..32,767. -/
  base : Nat
  /-- 1..1,024. -/
  length : Nat
  deriving DecidableEq, Repr

/-- An Asset Table entry with its written mark (R126, R130). -/
structure AssetEntry where
  /-- 0..15, the class that governs the asset. -/
  cls : Nat
  /-- The upstream asset. -/
  parent : Option Nat
  /-- Where the asset stands for zone purposes. -/
  address : FieldAddress
  /-- Yes keeps every qualification of the asset from escalating. -/
  inhibit : Bool
  /-- The written mark. -/
  written : Bool
  deriving DecidableEq, Repr

/-- An unwritten Asset Table entry (R130). -/
def unwrittenAsset : AssetEntry where
  cls := 0
  parent := none
  address := 0#20
  inhibit := false
  written := false

/-- A loaded Class Table entry (R131). -/
structure ClassEntry where
  /-- Q, 1..15. -/
  qualifyCount : Nat
  /-- P, 1..15. -/
  restoreCount : Nat
  /-- R, 1..3,600 s. -/
  reportPeriod : Nat
  /-- M, 0 or 2..15. -/
  silenceMultiple : Nat
  /-- 0..31. -/
  basePriority : Nat
  /-- 0..31. -/
  minorDrop : Nat
  masking : Bool
  escalate : Bool
  riseMask : Bool
  fallMask : Bool
  changeMask : Bool
  flapMask : Bool
  /-- 0..600 s. -/
  adoptionWindow : Nat
  /-- W, 0..4,095. -/
  flapWeight : Nat
  /-- H, 1..3,600 s. -/
  halfLife : Nat
  /-- 1..65,535. -/
  flapOn : Nat
  /-- 0..flap-on − 1. -/
  flapOff : Nat
  /-- 0..600 s. -/
  testHoldoff : Nat
  deriving DecidableEq, Repr

/-- What a class that is not loaded is read as. R131: such an entry holds no fields, and no asset governed by it exists
while the correlator is READY, so no rule reads this in a state a run reaches. -/
def notLoadedClass : ClassEntry where
  qualifyCount := 0
  restoreCount := 0
  reportPeriod := 0
  silenceMultiple := 0
  basePriority := 0
  minorDrop := 0
  masking := false
  escalate := false
  riseMask := false
  fallMask := false
  changeMask := false
  flapMask := false
  adoptionWindow := 0
  flapWeight := 0
  halfLife := 0
  flapOn := 0
  flapOff := 0
  testHoldoff := 0

/-- A Zone Template entry (R133). -/
structure ZoneTemplate where
  valid : Bool
  base : FieldAddress
  mask : FieldAddress
  /-- 0..15. -/
  zone : Nat
  /-- 0..7. -/
  boost : Nat
  deriving DecidableEq, Repr

/-- An invalid template, with the fields a table of invalid entries starts with (R126; log entry 2). -/
def invalidTemplate : ZoneTemplate where
  valid := false
  base := 0#20
  mask := 0#20
  zone := 0
  boost := 0

/-- The loaded tables and the asset count (R126). -/
structure LoadedTables where
  /-- Trunk Map, by source × 16 + channel; unlisted: invalid. -/
  trunks : Table (Option TrunkRun)
  /-- Asset Table, by asset index; unlisted: unwritten. -/
  assets : Table AssetEntry
  /-- Class Table, by class; unlisted: not loaded. -/
  classes : Table (Option ClassEntry)
  /-- Zone Template Table, by template; unlisted: invalid. -/
  templates : Table ZoneTemplate
  /-- 0..32,768. -/
  assetCount : Nat
  deriving DecidableEq, Repr

/-! ### Correlator, sweep and sources -/

/-- The correlator state (R177). -/
inductive CorrelatorState where
  | init | clearing | loading | validating | ready
  deriving DecidableEq, Repr

/-- The operating mode (R180). -/
inductive Mode where
  | passThrough | monitor | correlate
  deriving DecidableEq, Repr

/-- The Correlator (R2, R4, R92): its state, the Fault Record Table, the independent-fault count, the resume time. -/
structure Correlator where
  state : CorrelatorState
  /-- Fault Record Table, by asset index; unlisted: a clear record. -/
  records : Table FaultRecord
  /-- 0..32,768. -/
  independentCount : Nat
  /-- The time from which silence is measured. -/
  resumeTime : Nat
  deriving DecidableEq, Repr

/-- The walk a sweep job makes and its subject (R49). An ACK job's zone is `none` for all zones. -/
inductive Walk where
  | adopt (root : Nat)
  | release (root : Nat)
  | ack (zone : Option Nat)
  deriving DecidableEq, Repr

/-- The state of a sweep job (R49). -/
inductive JobState where
  | waiting | running
  deriving DecidableEq, Repr

/-- A sweep job (R49). -/
structure SweepJob where
  walk : Walk
  state : JobState
  /-- The next entry to visit; none once the tail has been passed. -/
  position : Option Nat
  /-- 0..32,767, entries an ADOPT walk has adopted. -/
  tally : Nat
  deriving DecidableEq, Repr

/-- The Sweep Engine (R49, R51). -/
structure SweepEngine where
  /-- The Sweep Queue in arrival order. -/
  jobs : List SweepJob
  /-- The adoption drop counter. -/
  adoptDrops : Nat
  deriving DecidableEq, Repr

/-- The state of a source (R152). -/
inductive SourceState where
  | unused | waiting | alive | silent
  deriving DecidableEq, Repr

/-- A Source Table entry (R152). -/
structure SourceEntry where
  state : SourceState
  /-- 0..255, or unknown. -/
  expected : Option Nat
  /-- 0..255, or none. -/
  lastAccepted : Option Nat
  lastFrameTime : Option Nat
  restoredAt : Option Nat
  framesAccepted : Nat
  duplicates : Nat
  lostFrames : Nat
  unmappedItems : Nat
  malformedItems : Nat
  testItems : Nat
  deriving DecidableEq, Repr

/-- A Source Table entry at power-on (R152). -/
def unusedSource : SourceEntry where
  state := .unused
  expected := none
  lastAccepted := none
  lastFrameTime := none
  restoredAt := none
  framesAccepted := 0
  duplicates := 0
  lostFrames := 0
  unmappedItems := 0
  malformedItems := 0
  testItems := 0

/-- The Source Monitor: the Source Table (R152), and the sources whose silence test at the last advance of the time base
found the window run out (the model's own field, log entry 6). -/
structure SourceMonitor where
  /-- Source Table, by source number; unlisted: UNUSED with every field at its power-on value. -/
  table : Table SourceEntry
  due : List Nat
  deriving DecidableEq, Repr

/-- The F-link state (R145). -/
inductive LinkState where
  | down | qualifying | pass
  deriving DecidableEq, Repr

/-- The Link Qualifier (R145), and whether the watchdog test at the last advance of the time base found the window run
out (the model's own field, log entry 6). -/
structure LinkQualifier where
  state : LinkState
  /-- 0..14, good frames in a row while QUALIFYING. -/
  run : Nat
  lastGood : Option Nat
  passedAt : Option Nat
  watchdogDue : Bool
  deriving DecidableEq, Repr

/-! ### Notices, storm, escalation -/

/-- The notice kinds (R95). -/
inductive NoticeKind where
  | out | silent | changed | restored | unmasked | transient | flap | flapEnd | adopted | escalation
  | sourceSilent | sourceBack | linkDown | linkUp | storm
  deriving DecidableEq, Repr

/-- The notice families (R95). -/
inductive NoticeFamily where
  | condition | flap | adopted | escalation | source | link | storm
  deriving DecidableEq, Repr

/-- Subject type and subject id (R95). -/
inductive NoticeSubject where
  | asset (index : Nat)
  | source (number : Nat)
  | link
  | storm
  deriving DecidableEq, Repr

/-- A notice entry (R98). Its age is its place in the queue's list, oldest first. -/
structure Notice where
  kind : NoticeKind
  subject : NoticeSubject
  condition : Condition
  severity : Severity
  cause : Option Nat
  /-- 0..255. -/
  detail : Nat
  /-- 0..15. -/
  zone : Nat
  /-- 0..31. -/
  priority : Nat
  eventTime : Nat
  /-- 0..65,535. -/
  count : Nat
  /-- 0..65,535, or absent. -/
  value : Option Nat
  address : FieldAddress
  deriving DecidableEq, Repr

/-- The Notice Queue and the counters of the Notice Builder (R105, R107). -/
structure NoticeQueue where
  /-- The entries in the order of their admission, oldest first. -/
  entries : List Notice
  evicted : Nat
  dropped : Nat
  deriving DecidableEq, Repr

/-- The storm state (R111). -/
inductive StormState where
  | calm | auto | manual
  deriving DecidableEq, Repr

/-- A storm rate bucket (R41). -/
structure Bucket where
  /-- 0..429,496,729. -/
  period : Nat
  /-- 0..4,095. -/
  count : Nat
  deriving DecidableEq, Repr

/-- A bucket at power-on (R41). -/
def emptyBucket : Bucket := ⟨0, 0⟩

/-- The Storm Monitor (R41, R111). -/
structure StormMonitor where
  state : StormState
  /-- 0..31, the floor of STORM_MANUAL. -/
  manualFloor : Nat
  /-- The six rate buckets, by number 0..5; unlisted: period 0 and count 0. -/
  buckets : Table Bucket
  deriving DecidableEq, Repr

/-- The escalation context (R116). -/
structure EscalationContext where
  asset : Nat
  address : FieldAddress
  cls : Nat
  severity : Severity
  priority : Nat
  qualifiedAt : Nat
  /-- 0..32,768. -/
  faultCount : Nat
  deriving DecidableEq, Repr

/-- The Escalation Unit (R116): it holds a context exactly while it is RAISED or HELD. -/
inductive Escalation where
  | disarmed
  | armed
  | raised (context : EscalationContext)
  | held (context : EscalationContext)
  deriving DecidableEq, Repr

/-! ### Ports (R159 to R171) -/

/-- The seven F-port counters in the order of R171. -/
structure FieldCounters where
  good : Nat
  checkFailures : Nat
  malformed : Nat
  wrongDirection : Nat
  uncorrelated : Nat
  downOverflows : Nat
  transmitted : Nat
  deriving DecidableEq, Repr

/-- The F-port counters at zero. -/
def zeroFieldCounters : FieldCounters := ⟨0, 0, 0, 0, 0, 0, 0⟩

/-- The eight D-port counters in the order of R171. -/
structure DispatchCounters where
  good : Nat
  checkFailures : Nat
  malformed : Nat
  wrongDirection : Nat
  upOverflows : Nat
  noticesSent : Nat
  repliesSent : Nat
  forwardedSent : Nat
  deriving DecidableEq, Repr

/-- The D-port counters at zero. -/
def zeroDispatchCounters : DispatchCounters := ⟨0, 0, 0, 0, 0, 0, 0, 0⟩

/-- The F-port (R146, R163, R166, R167). -/
structure FieldPort where
  /-- The line-signal-present indication, which follows FSIG. -/
  lineSignal : Bool
  /-- The bytes kept of the frame last received. -/
  receive : Bytes
  /-- The forward-down FIFO, head first. -/
  down : List Bytes
  /-- The frame being sent; none in IDLE. -/
  sending : Option Bytes
  counters : FieldCounters
  deriving DecidableEq, Repr

/-- The alternation mark (R168). -/
inductive Mark where
  | forward | notice
  deriving DecidableEq, Repr

/-- The D-port (R163, R166, R168 to R170). -/
structure DispatchPort where
  /-- The bytes kept of the frame last received. -/
  receive : Bytes
  /-- The forward-up FIFO, head first. -/
  up : List Bytes
  /-- The payload of the reply waiting in the reply buffer; its header and check word are made at hand-off (R169). -/
  reply : Option Bytes
  /-- The frame being sent; none in IDLE. -/
  sending : Option Bytes
  mark : Mark
  /-- 0..255. -/
  sequence : Nat
  /-- 0..65,535. -/
  noticeNumber : Nat
  counters : DispatchCounters
  deriving DecidableEq, Repr

/-! ### Management Agent (R172 to R187) -/

/-- The link error mode (R148). -/
inductive ErrorMode where
  | strict | lenient
  deriving DecidableEq, Repr

/-- The configuration set (R178). -/
structure ConfigSet where
  /-- N, 0..15. -/
  passThreshold : Nat
  errorMode : ErrorMode
  /-- K, 1..60 s. -/
  keepalive : Nat
  /-- 2..15. -/
  sourceMultiple : Nat
  /-- 0..31. -/
  escalationFloor : Nat
  /-- 0..4,095. -/
  stormTrigger : Nat
  /-- 0..31. -/
  stormFloor : Nat
  /-- 0..7. -/
  stat0 : Nat
  /-- 0..7. -/
  stat1 : Nat
  deriving DecidableEq, Repr

/-- The configuration set at power-on (R178). -/
def powerOnConfig : ConfigSet where
  passThreshold := 3
  errorMode := .strict
  keepalive := 10
  sourceMultiple := 3
  escalationFloor := 24
  stormTrigger := 0
  stormFloor := 16
  stat0 := 0
  stat1 := 2

/-- The agent's state (R173). `held` is the hold from power-on reset release until INIT ends. -/
inductive AgentState where
  | held
  | idle
  /-- The MGMT payload being executed. -/
  | executing (payload : Bytes)
  | replyWaiting
  /-- The flash offset of the next frame start, the number of stored frames executed, and the payload of the stored
  command being executed, if one is. -/
  | replaying (offset executed : Nat) (payload : Option Bytes)
  deriving DecidableEq, Repr

/-- The command that takes time and is in progress (R173): the end of CLEARING and whether it brings READY, the declared
count under validation, the block an erase is at, the block and data of a write. -/
inductive LongCommand where
  | clearing (toReady : Bool)
  | validating (declared : Nat)
  | erasing (block : Nat)
  | writing (block : Nat) (data : Bytes)
  deriving DecidableEq, Repr

/-- The Management Agent (R172, R173, R29, R178, R180, R187). -/
structure ManagementAgent where
  state : AgentState
  /-- The Command Queue: whole frames as received, head first. -/
  queue : List Bytes
  long : Option LongCommand
  /-- The time base, 0..4,294,967,295 s. -/
  time : Nat
  config : ConfigSet
  mode : Mode
  bootFailed : Bool
  /-- The failing frame ordinal, 0..149,797. -/
  bootOrdinal : Nat
  /-- The management overrun counter. -/
  overruns : Nat
  deriving DecidableEq, Repr

/-- The straps latched at power-on reset release but for MODE, which the mode is taken from (R185). -/
structure Straps where
  /-- 0..63. -/
  node : Nat
  boot : Bool
  deriving DecidableEq, Repr

end Sys2Proof.Machine
end

