-- ==== Sys2Proof/Machine/Bytes.lean ====
section
/-! DEFINITION. Byte order, bounded counting and elapsed time: the arithmetic every block shares. Multi-byte fields are
big-endian (Conventions; R159). -/

namespace Sys2Proof.Machine

/-- One byte of a number below 256. -/
def byte1 (n : Nat) : Bytes := [BitVec.ofNat 8 n]

/-- A number in two bytes, high byte first. -/
def byte2 (n : Nat) : Bytes := [BitVec.ofNat 8 (n / 256), BitVec.ofNat 8 n]

/-- A number in three bytes, high byte first. -/
def byte3 (n : Nat) : Bytes := BitVec.ofNat 8 (n / 65536) :: byte2 n

/-- A number in four bytes, high byte first. -/
def byte4 (n : Nat) : Bytes := BitVec.ofNat 8 (n / 16777216) :: byte3 n

/-- The number a run of bytes carries, high byte first. -/
def bigEndian (bs : Bytes) : Nat := bs.foldl (fun n b => n * 256 + b.toNat) 0

/-- The byte at a place, as a number; 0 past the end. -/
def byteAt (bs : Bytes) (i : Nat) : Nat := (bs.getD i 0#8).toNat

/-- The number in the `w` bytes from place `i`. -/
def numAt (bs : Bytes) (i w : Nat) : Nat := bigEndian ((bs.drop i).take w)

/-- A counter raised by `k`, stopping at its greatest value 65,535 (R31). -/
def countUp (n k : Nat) : Nat := min Config.countTop (n + k)

/-- Elapsed time from `a` to `b`: never below zero (R30). -/
def elapsed (a b : Nat) : Nat := b - a

/-- Time plus a duration stops at the end of the time base (R30). -/
def timePlus (t d : Nat) : Nat := min Config.timeTop (t + d)

/-- Time minus a duration stops at 0 (R30). -/
def timeMinus (t d : Nat) : Nat := t - d

end Sys2Proof.Machine
end

