-- ==== Sys2Proof/Machine/Frames.lean ====
section
/-! DEFINITION. Frames: the check word, the judgement of a received frame, and every frame layout (R43, R44, R159 to
R163). -/

namespace Sys2Proof.Machine

/-! ### The check word -/

/-- The bytes taken two at a time as 16-bit words; a last odd byte is the high byte of a word whose low byte is 0
(R43, step 1). -/
def wordsOf : Bytes → List (BitVec 16)
  | [] => []
  | [b] => [(b ++ 0#8 : BitVec 16)]
  | b :: c :: rest => (b ++ c : BitVec 16) :: wordsOf rest

/-- Addition with end-around carry: a carry out of 16 bits is dropped from the top and 1 added at the bottom (R43, step 2). -/
def addEndAround (a b : BitVec 16) : BitVec 16 :=
  if a.toNat + b.toNat < 65536 then BitVec.ofNat 16 (a.toNat + b.toNat)
  else BitVec.ofNat 16 (a.toNat + b.toNat - 65536 + 1)

/-- The end-around-carry sum of a list of words. -/
def endAroundSum (ws : List (BitVec 16)) : BitVec 16 := ws.foldl addEndAround 0#16

/-- The check word of a header and payload: 0xFFFF less the sum (R43, step 3). -/
def checkWord (bs : Bytes) : BitVec 16 := 0xFFFF#16 - endAroundSum (wordsOf bs)

/-- A header and payload followed by their check word, high byte first (R43). -/
def sealFrame (bs : Bytes) : Bytes := bs ++ byte2 (checkWord bs).toNat

/-- The sum a receiver makes over a frame of B bytes: its first B − 2 bytes as header and payload, then its last two as
the check word (R44, R163). -/
def receivedSum (frame : Bytes) : BitVec 16 :=
  addEndAround (endAroundSum (wordsOf (frame.take (frame.length - 2))))
    (BitVec.ofNat 16 (bigEndian (frame.drop (frame.length - 2))))

/-! ### Frame fields -/

/-- Header byte 0, the kind (R159). -/
def frameKind (f : Bytes) : Nat := byteAt f 0

/-- Header byte 1, the node. -/
def frameNode (f : Bytes) : Nat := byteAt f 1

/-- Header byte 2, the channel. -/
def frameChannel (f : Bytes) : Nat := byteAt f 2

/-- Header byte 3, the sequence. -/
def frameSequence (f : Bytes) : Nat := byteAt f 3

/-- Header byte 4, the payload length. -/
def frameLength (f : Bytes) : Nat := byteAt f 4

/-- The payload of a frame. -/
def framePayload (f : Bytes) : Bytes := (f.drop 5).take (frameLength f)

/-- The frame kinds (R159). -/
def kindReport : Nat := 1
/-- COMMAND. -/
def kindCommand : Nat := 2
/-- NOTICE. -/
def kindNotice : Nat := 3
/-- MGMT. -/
def kindMgmt : Nat := 4
/-- REPLY. -/
def kindReply : Nat := 5

/-- A whole frame of the given header fields and payload, with its check word (R159). -/
def buildFrame (kind node channel sequence : Nat) (payload : Bytes) : Bytes :=
  sealFrame (byte1 kind ++ byte1 node ++ byte1 channel ++ byte1 sequence ++ byte1 payload.length ++ payload)

/-! ### The judgement of a received frame (R163) -/

/-- What a port finds a received frame to be. -/
inductive Judgement where
  | good | checkFailure | malformed
  deriving DecidableEq, Repr

/-- The form test of R163, step 3. -/
def wellShaped (f : Bytes) : Bool :=
  decide (1 ≤ frameKind f ∧ frameKind f ≤ 5) && decide (frameNode f ≤ 63) && decide (frameChannel f ≤ 15)
    && decide (frameLength f ≤ Config.payloadLimit) && decide (f.length = 7 + frameLength f)
    && (decide (frameKind f ≠ kindReport) || decide (frameLength f % 5 = 0))

/-- Size, then check, then form (R163). -/
def judge (f : Bytes) : Judgement :=
  if f.length < 7 ∨ Config.receiveBytes < f.length then .malformed
  else if receivedSum f ≠ 0xFFFF#16 then .checkFailure
  else if wellShaped f then .good
  else .malformed

/-! ### Report items (R160) -/

/-- One item of a REPORT. Its status is none for the malformed status 3. -/
structure Item where
  /-- 0..1023. -/
  point : Nat
  status : Option Status
  /-- 0..255. -/
  detail : Nat
  value : Option Nat
  deriving DecidableEq, Repr

/-- The status of bits 11–10. -/
def itemStatus (code : Nat) : Option Status :=
  if code = 0 then some .ok else if code = 1 then some .degraded else if code = 2 then some .failed else none

/-- The item in five bytes: bit 15 value present, bits 14–12 ignored, bits 11–10 status, bits 9–0 point; then the detail
code and the measured value, which is absent when the present bit is 0. -/
def itemOf (a b c d e : Byte) : Item :=
  let w := bigEndian [a, b]
  { point := w % 1024
    status := itemStatus (w / 1024 % 4)
    detail := c.toNat
    value := if w / 32768 % 2 = 1 then some (bigEndian [d, e]) else none }

/-- The items of a REPORT payload, item 0 first. -/
def itemsOf : Bytes → List Item
  | a :: b :: c :: d :: e :: rest => itemOf a b c d e :: itemsOf rest
  | _ => []

/-! ### Codes (R162, R174, R177) -/

/-- The byte codes of the conditions (R162). -/
def conditionCode : Condition → Nat
  | .unknown => 0 | .normal => 1 | .suspect => 2 | .fault => 3 | .recovering => 4 | .silent => 5 | .outOfService => 6

/-- The byte codes of the severities (R162). -/
def severityCode : Severity → Nat
  | .none => 0 | .minor => 1 | .major => 2

/-- The byte codes of the notice kinds (R162). -/
def noticeKindCode : NoticeKind → Nat
  | .out => 1 | .silent => 2 | .changed => 3 | .restored => 4 | .unmasked => 5 | .transient => 6 | .adopted => 7
  | .flap => 8 | .flapEnd => 9 | .sourceSilent => 16 | .sourceBack => 17 | .linkDown => 18 | .linkUp => 19
  | .storm => 20 | .escalation => 21

/-- The subject type code and the subject id (R162). -/
def subjectCode : NoticeSubject → Nat × Nat
  | .asset i => (1, i)
  | .source n => (2, n)
  | .link => (3, 0)
  | .storm => (4, 0)

/-- An asset index that may be none, in two bytes, 0xFFFF for none (R174). -/
def indexBytes (i : Option Nat) : Bytes := byte2 (i.getD 65535)

/-- A yes/no byte (R174). -/
def flagByte (b : Bool) : Bytes := byte1 (if b then 1 else 0)

/-- A value that may be absent: a presence byte, then the value in the bytes `enc` gives it, zeros when absent (R174). -/
def presentBytes (enc : Nat → Bytes) (v : Option Nat) : Bytes := flagByte v.isSome ++ enc (v.getD 0)

/-- A latch byte (R174). -/
def latchCode : Latch → Nat
  | .clear => 0 | .held => 1

/-- A last-status byte (R174). -/
def lastStatusCode : Option Status → Nat
  | none => 0 | some .ok => 1 | some .degraded => 2 | some .failed => 3

/-- Correlator state codes (R177). -/
def correlatorCode : CorrelatorState → Nat
  | .init => 0 | .clearing => 1 | .loading => 2 | .validating => 3 | .ready => 4

/-- Mode codes (R177). -/
def modeCode : Mode → Nat
  | .passThrough => 0 | .monitor => 1 | .correlate => 2

/-- Link state codes (R177). -/
def linkCode : LinkState → Nat
  | .down => 0 | .qualifying => 1 | .pass => 2

/-- Storm state codes (R177). -/
def stormCode : StormState → Nat
  | .calm => 0 | .auto => 1 | .manual => 2

/-- Escalation state codes (R177). -/
def escalationCode : Escalation → Nat
  | .disarmed => 0 | .armed => 1 | .raised _ => 2 | .held _ => 3

/-- Source state codes (R177). -/
def sourceCode : SourceState → Nat
  | .unused => 0 | .waiting => 1 | .alive => 2 | .silent => 3

/-! ### The NOTICE payload (R162) -/

/-- The 25 payload bytes of a notice with its notice number. -/
def noticePayload (number : Nat) (n : Notice) : Bytes :=
  byte2 number ++ byte1 (noticeKindCode n.kind) ++ byte1 (subjectCode n.subject).1 ++ byte2 (subjectCode n.subject).2
    ++ byte1 (conditionCode n.condition) ++ byte1 (severityCode n.severity) ++ indexBytes n.cause ++ byte1 n.detail
    ++ byte1 n.zone ++ byte1 n.priority ++ byte4 n.eventTime ++ byte2 n.count ++ byte2 (n.value.getD 0)
    ++ flagByte n.value.isSome ++ byte3 n.address.toNat

end Sys2Proof.Machine
end

