-- ==== Sys2Proof/Machine/State.lean ====
section
/-! DEFINITION. The state of the part, block by block (00_scope.md, Block diagram), the reasons a step may stop, and the
state right after power-on reset release. -/

namespace Sys2Proof.Machine

/-- The state of the part. -/
structure State where
  /-- RSTN is low: the part is held in reset (R124, R185). -/
  inReset : Bool
  /-- The latched straps (R185). -/
  straps : Straps
  /-- Initialisation after power-on has not ended (R124). -/
  initialising : Bool
  /-- The F-port. -/
  fport : FieldPort
  /-- The D-port. -/
  dport : DispatchPort
  /-- The Link Qualifier. -/
  link : LinkQualifier
  /-- The Source Monitor. -/
  sources : SourceMonitor
  /-- The Trunk Map, the Asset, Class and Zone Template Tables and the asset count. -/
  tables : LoadedTables
  /-- The Correlator. -/
  correlator : Correlator
  /-- The Active Fault List, head first (R70). It holds each record's predecessor and successor. -/
  board : List Nat
  /-- The Sweep Engine. -/
  sweep : SweepEngine
  /-- The scan position of the Silence Scanner (R85). -/
  scan : Nat
  /-- The Notice Queue and its counters. -/
  notices : NoticeQueue
  /-- The Storm Monitor. -/
  storm : StormMonitor
  /-- The Escalation Unit. -/
  escalation : Escalation
  /-- The Management Agent. -/
  agent : ManagementAgent
  /-- The serial flash (R186). -/
  flash : Memory
  /-- The commands that are waiting, first in, first out. -/
  pending : List Instr
  deriving DecidableEq, Repr

/-- The reasons a step stops the machine: none. The manual names no event that stops the part, and no command acts at
an address that does not exist. An empty type is safe: no step can answer a fault. -/
inductive Fault where
  deriving DecidableEq, Repr

/-- The reasons a command is not run. -/
inductive Refusal where
  /-- An arm of `exec` whose command has no meaning yet answers with it; no arm does. Safe. -/
  | notModelled (mnemonic : String)
  deriving DecidableEq, Repr

/-- The state the power-on reset release leaves (R185 and the power-on values of every block), given the straps it
latches and what outlives a reset: the FSIG level, the contents of the flash, and the commands waiting outside. -/
def powerOnState (node : Nat) (mode : Mode) (boot lineSignal : Bool) (flash : Memory) (pending : List Instr) : State where
  inReset := false
  straps := { node := node, boot := boot }
  initialising := true
  fport := { lineSignal := lineSignal, receive := [], down := [], sending := none, counters := zeroFieldCounters }
  dport := {
    receive := [], up := [], reply := none, sending := none, mark := .notice
    sequence := 0, noticeNumber := 0, counters := zeroDispatchCounters }
  link := { state := .down, run := 0, lastGood := none, passedAt := none, watchdogDue := false }
  sources := { table := [], due := [] }
  tables := { trunks := [], assets := [], classes := [], templates := [], assetCount := 0 }
  correlator := { state := .init, records := [], independentCount := 0, resumeTime := 0 }
  board := []
  sweep := { jobs := [], adoptDrops := 0 }
  scan := 0
  notices := { entries := [], evicted := 0, dropped := 0 }
  storm := { state := .calm, manualFloor := 0, buckets := [] }
  escalation := .disarmed
  agent := {
    state := .held, queue := [], long := none, time := 0, config := powerOnConfig, mode := mode
    bootFailed := false, bootOrdinal := 0, overruns := 0 }
  flash := flash
  pending := pending

/-- The part right after power-on reset release (R185), with every strap pin low, no line signal and an erased flash
(log entries 1 to 3), and no command waiting. -/
def State.reset : State := powerOnState 0 .passThrough false false [] []

end Sys2Proof.Machine
end

