-- ==== Sys2Proof/Machine/Ops.lean ====
section
/-! DEFINITION. The named operations over the part's memories and registers: reads and writes of records, tables and
sources, the standing of a record, the ancestor walk, the Active Fault List, and the small updates of each block. Every
other file reaches the state through these. -/

namespace Sys2Proof.Machine

/-! ### Time and state of the part -/

/-- The time base: "now" of the event being processed (R29). -/
def State.now (s : State) : Nat := s.agent.time

/-- The correlator is READY. -/
def State.ready (s : State) : Bool := decide (s.correlator.state = .ready)

/-- The mode is MONITOR or CORRELATE, a correlating mode. -/
def State.correlating (s : State) : Bool := decide (s.agent.mode ≠ .passThrough)

/-- The F-link is PASS. -/
def State.linkPass (s : State) : Bool := decide (s.link.state = .pass)

/-- The receivers are enabled: the part is out of reset and INIT has ended (R163, R185). -/
def State.receiving (s : State) : Bool := !s.inReset && decide (s.correlator.state ≠ .init)

/-- The resume time becomes now (R93). -/
def State.resume (s : State) : State := { s with correlator.resumeTime := s.now }

/-! ### Records and tables -/

/-- The fault record of an asset index (R1). -/
def State.record (s : State) (a : Nat) : FaultRecord := tableGet clearRecord s.correlator.records a

/-- The state with the fault record of `a` replaced. -/
def State.setRecord (s : State) (a : Nat) (r : FaultRecord) : State :=
  { s with correlator.records := tableSet clearRecord s.correlator.records a r }

/-- The state with the fault record of `a` changed by `f`. -/
def State.modRecord (s : State) (a : Nat) (f : FaultRecord → FaultRecord) : State := s.setRecord a (f (s.record a))

/-- The Asset Table entry of an index (R130). -/
def State.asset (s : State) (a : Nat) : AssetEntry := tableGet unwrittenAsset s.tables.assets a

/-- The Class Table entry of a class, none when not loaded (R131). -/
def State.loadedClass (s : State) (c : Nat) : Option ClassEntry := tableGet none s.tables.classes c

/-- The fields of the class that governs an asset, as they stand at the read (R132). -/
def State.classOf (s : State) (a : Nat) : ClassEntry := (s.loadedClass (s.asset a).cls).getD notLoadedClass

/-- The Source Table entry of a source (R152). -/
def State.source (s : State) (n : Nat) : SourceEntry := tableGet unusedSource s.sources.table n

/-- The state with the Source Table entry of `n` changed by `f`. -/
def State.modSource (s : State) (n : Nat) (f : SourceEntry → SourceEntry) : State :=
  { s with sources.table := tableSet unusedSource s.sources.table n (f (s.source n)) }

/-- The independent-fault count rises by one (R4). -/
def State.countIndependent (s : State) : State :=
  { s with correlator.independentCount := s.correlator.independentCount + 1 }

/-- The independent-fault count falls by one (R4). -/
def State.uncountIndependent (s : State) : State :=
  { s with correlator.independentCount := s.correlator.independentCount - 1 }

/-! ### The Trunk Map (R127 to R129) -/

/-- The Trunk Map entry of a source and channel (R127). -/
def trunkEntry (t : LoadedTables) (source channel : Nat) : Option TrunkRun := tableGet none t.trunks (source * 16 + channel)

/-- The asset index a field address maps to, if it maps (R128). -/
def mapPoint (t : LoadedTables) (source channel point : Nat) : Option Nat :=
  match trunkEntry t source channel with
  | none => none
  | some e => if point < e.length ∧ e.base + point < t.assetCount then some (e.base + point) else none

/-- A source is used when one of its 16 entries is valid (R129). -/
def sourceUsed (t : LoadedTables) (source : Nat) : Bool :=
  (List.range 16).any fun channel => (trunkEntry t source channel).isSome

/-! ### Zones (R133, R134) -/

/-- A field address matches a template: valid, and in agreement in every position the mask fixes (R133). -/
def templateMatches (t : ZoneTemplate) (a : FieldAddress) : Bool := t.valid && decide (a &&& t.mask = t.base &&& t.mask)

/-- The zone and boost of the lowest-numbered template that matches; zone 0 and boost 0 when none does (R134). -/
def templateLookup (ts : Table ZoneTemplate) (a : FieldAddress) : Nat × Nat :=
  (((List.range 16).map (tableGet invalidTemplate ts)).find? fun t => templateMatches t a).elim (0, 0)
    fun t => (t.zone, t.boost)

/-- The zone lookup (R134): zone 0 and boost 0 while LOADING or VALIDATING. -/
def State.zoneLookup (s : State) (a : FieldAddress) : Nat × Nat :=
  match s.correlator.state with
  | .loading | .validating => (0, 0)
  | .init | .clearing | .ready => templateLookup s.tables.templates a

/-! ### The standing of a record (R3) -/

/-- FAULT, RECOVERING or SILENT. -/
def Condition.faulted : Condition → Bool
  | .fault | .recovering | .silent => true
  | .unknown | .normal | .suspect | .outOfService => false

/-- Faulted (R3). -/
def FaultRecord.faulted (r : FaultRecord) : Bool := r.condition.faulted

/-- Independent: faulted with no cause (R3). -/
def FaultRecord.independent (r : FaultRecord) : Bool := r.faulted && r.cause.isNone

/-- On the board: faulted or HELD (R70). -/
def FaultRecord.listed (r : FaultRecord) : Bool := r.faulted || decide (r.latch = .held)

/-- Masking-faulted: a masking class in FAULT, RECOVERING, SILENT or OUT_OF_SERVICE (R3). -/
def State.maskingFaulted (s : State) (a : Nat) : Bool :=
  (s.classOf a).masking && ((s.record a).faulted || decide ((s.record a).condition = .outOfService))

/-- The nearest masking-faulted ancestor of `a` within `links` parent links, with the asset `excluded` treated as not
masking-faulted (R14, R48). -/
def ancestorWithin (s : State) (excluded : Option Nat) : Nat → Nat → Option Nat
  | 0, _ => none
  | links + 1, a =>
    match (s.asset a).parent with
    | none => none
    | some p => if s.maskingFaulted p ∧ excluded ≠ some p then some p else ancestorWithin s excluded links p

/-- The ancestor walk of a qualification and of the adoption test (R14, R48). -/
def State.ancestor (s : State) (a : Nat) : Option Nat := ancestorWithin s none Config.ancestorLinks a

/-- The ancestor walk of a RELEASE visit, stepping over the root (R48). -/
def State.ancestorExcluding (s : State) (root a : Nat) : Option Nat := ancestorWithin s (some root) Config.ancestorLinks a

/-! ### Cause and dependents, changed as a pair (R45) -/

/-- `e`'s cause becomes `root`, and `root`'s dependents rise by one. -/
def State.attribute (s : State) (e root : Nat) : State :=
  (s.modRecord e fun r => { r with cause := some root }).modRecord root
    fun r => { r with dependents := r.dependents + 1 }

/-- `e`'s cause, if it has one, becomes none, and that root's dependents fall by one. -/
def State.unattribute (s : State) (e : Nat) : State :=
  match (s.record e).cause with
  | none => s
  | some root =>
    (s.modRecord e fun r => { r with cause := none }).modRecord root
      fun r => { r with dependents := r.dependents - 1 }

/-! ### The Active Fault List (R70 to R73) -/

/-- The entry after `a` on a list: its successor. -/
def successorIn : List Nat → Nat → Option Nat
  | [], _ => none
  | x :: rest, a => if x = a then rest.head? else successorIn rest a

/-- The entry before `a` on a list: its predecessor. -/
def predecessorIn : List Nat → Nat → Option Nat
  | x :: y :: rest, a => if y = a then some x else predecessorIn (y :: rest) a
  | _, _ => none

/-- The predecessor of a record on the Active Fault List; none at the head or off the list (R1). -/
def State.predecessor (s : State) (a : Nat) : Option Nat := predecessorIn s.board a

/-- The successor of a record on the Active Fault List; none at the tail or off the list (R1). -/
def State.successor (s : State) (a : Nat) : Option Nat := successorIn s.board a

/-- A record off the list joins it at the tail, with joined at = now; one on the list keeps its place (R71, R72). -/
def State.join (s : State) (a : Nat) : State :=
  if a ∈ s.board then s
  else { (s.modRecord a fun r => { r with joinedAt := some s.now }) with board := s.board ++ [a] }

/-- A job whose walk position names `a` has it moved to `next` (R56). -/
def SweepJob.stepPast (j : SweepJob) (a : Nat) (next : Option Nat) : SweepJob :=
  if j.position = some a then { j with position := next } else j

/-- A record leaves the list, wherever it stands, and walk positions naming it move to its successor (R73, R56). -/
def State.leave (s : State) (a : Nat) : State :=
  if a ∈ s.board then
    { s with
      board := s.board.erase a
      sweep.jobs := s.sweep.jobs.map fun j => j.stepPast a (s.successor a) }
  else s

/-- A record leaves the list if it is neither faulted nor HELD (R73). -/
def State.leaveUnlessListed (s : State) (a : Nat) : State := if (s.record a).listed then s else s.leave a

/-- A record's latch becomes CLEAR, and the record leaves the list if it is not faulted (R75). -/
def State.clearLatch (s : State) (a : Nat) : State :=
  (s.modRecord a fun r => { r with latch := .clear }).leaveUnlessListed a

end Sys2Proof.Machine
end

