-- ==== Sys2Proof/Machine/Flags.lean ====
section
/-! DEFINITION. The output lines. Each follows the state it shows as a level, in the action that changes that state
(R124, R125), so each is a function of the state. -/

namespace Sys2Proof.Machine

/-- The unit is RAISED (R116). -/
def Escalation.isRaised : Escalation → Bool
  | .raised _ => true
  | .disarmed | .armed | .held _ => false

/-- ALERT: asserted exactly while the Escalation Unit is RAISED; deasserted while RSTN is low (R124). -/
def State.alert (s : State) : Bool := !s.inReset && s.escalation.isRaised

/-- FAIL: initialisation, boot failure, LOADING or VALIDATING; asserted while RSTN is low (R124). -/
def State.fail (s : State) : Bool :=
  s.inReset || s.initialising || s.agent.bootFailed
    || decide (s.correlator.state = .loading) || decide (s.correlator.state = .validating)

/-- The eight sources a STAT line can show (R125). -/
def State.statSource (s : State) (select : Nat) : Bool :=
  if select = 0 then s.linkPass
  else if select = 1 then s.sources.table.any fun e => decide (e.2.state = .silent)
  else if select = 2 then decide (0 < s.board.length)
  else if select = 3 then decide (0 < s.correlator.independentCount)
  else if select = 4 then decide (s.storm.state ≠ .calm)
  else if select = 5 then decide (Config.noticeHighWater ≤ s.notices.entries.length)
  else if select = 6 then s.sweep.jobs.any fun j => decide (j.state = .running)
  else if select = 7 then s.ready
  else false

/-- STAT0: its selected source; deasserted while RSTN is low (R124, R125). -/
def State.stat0 (s : State) : Bool := !s.inReset && s.statSource s.agent.config.stat0

/-- STAT1: its selected source; deasserted while RSTN is low (R124, R125). -/
def State.stat1 (s : State) : Bool := !s.inReset && s.statSource s.agent.config.stat1

end Sys2Proof.Machine
end

