-- ==== Sys2Proof/Machine/Ports.lean ====
section
/-! DEFINITION. The transmitters, the forward FIFOs, the D-port arbiter and the taking of commands (R107 to R109, R166 to
R173). Something that becomes available to an IDLE transmitter starts a frame at once, in the action that makes it
available. -/

namespace Sys2Proof.Machine

/-! ### The Command Queue (R172, R173) -/

/-- The idle agent takes the head of the Command Queue and executes it (R173). -/
def State.takeCommand (s : State) : State :=
  match s.agent.state, s.agent.queue with
  | .idle, f :: rest => { s with agent.state := .executing (framePayload f), agent.queue := rest }
  | _, _ => s

/-- A good MGMT frame for the part joins the Command Queue, or is a management overrun (R172). -/
def State.queueCommand (s : State) (f : Bytes) : State :=
  if Config.commandPlaces ≤ s.agent.queue.length then { s with agent.overruns := countUp s.agent.overruns 1 }
  else { s with agent.queue := s.agent.queue ++ [f] }.takeCommand

/-! ### The head of the Notice Queue (R107, R108) -/

/-- The first entry by priority, highest first, then by age, oldest first (R107). -/
def queueHead : List Notice → Option Notice
  | [] => none
  | n :: rest =>
    match queueHead rest with
    | none => some n
    | some h => if n.priority < h.priority then some h else some n

/-- The current floor (R108). -/
def State.floor (s : State) : Nat :=
  match s.storm.state with
  | .calm => 0
  | .auto => s.agent.config.stormFloor
  | .manual => s.storm.manualFloor

/-- An entry is allowed past the current floor (R108). -/
def State.eligible (s : State) (n : Notice) : Bool :=
  decide (s.floor ≤ n.priority) || decide (n.priority = Config.priorityTop)

/-- What the queue presents to the arbiter: its head when eligible (R108). -/
def State.presented (s : State) : Option Notice :=
  match queueHead s.notices.entries with
  | none => none
  | some n => if s.eligible n then some n else none

/-! ### The D-port transmitter (R168 to R170) -/

/-- A frame the part originates: its strapped node, channel 0 and the transmit sequence, which then rises (R159, R169). -/
def State.sendOwn (s : State) (kind : Nat) (payload : Bytes) : State :=
  { s with
    dport.sending := some (buildFrame kind s.straps.node 0 s.dport.sequence payload)
    dport.sequence := (s.dport.sequence + 1) % 256 }

/-- The agent whose reply has been chosen returns to IDLE and takes the next waiting frame (R173). -/
def State.replyChosen (s : State) : State :=
  if s.agent.state = .replyWaiting then { s with agent.state := .idle }.takeCommand else s

/-- The reply is chosen: the buffer empties and the agent goes on (R168 step 1, R173). -/
def State.sendReply (s : State) (payload : Bytes) : State :=
  { s.sendOwn kindReply payload with
    dport.reply := none
    dport.counters.repliesSent := countUp s.dport.counters.repliesSent 1 }.replyChosen

/-- A notice is handed off: it leaves the queue, takes the notice number, and the mark becomes NOTICE (R109, R168, R169). -/
def State.sendNotice (s : State) (n : Notice) : State :=
  { s.sendOwn kindNotice (noticePayload s.dport.noticeNumber n) with
    notices.entries := s.notices.entries.erase n
    dport.noticeNumber := (s.dport.noticeNumber + 1) % 65536
    dport.mark := .notice
    dport.counters.noticesSent := countUp s.dport.counters.noticesSent 1 }

/-- The forward-up head is sent as received, and the mark becomes FORWARD (R166, R168). -/
def State.sendForward (s : State) (f : Bytes) (rest : List Bytes) : State :=
  { s with
    dport.sending := some f
    dport.up := rest
    dport.mark := .forward
    dport.counters.forwardedSent := countUp s.dport.counters.forwardedSent 1 }

/-- The arbiter's choice below a waiting reply: an urgent notice, then alternation, then whichever there is (R168). -/
def State.chooseBelowReply (s : State) : State :=
  match s.presented, s.dport.up with
  | some n, f :: rest =>
    if Config.urgentPriority ≤ n.priority then s.sendNotice n
    else if s.dport.mark = .notice then s.sendForward f rest
    else s.sendNotice n
  | some n, [] => s.sendNotice n
  | none, f :: rest => s.sendForward f rest
  | none, [] => { s with dport.sending := none }

/-- The arbiter's choice when the transmitter falls free (R168). -/
def State.choose (s : State) : State :=
  match s.dport.reply with
  | some payload => s.sendReply payload
  | none => s.chooseBelowReply

/-- The choice made when something becomes available: nothing happens unless the transmitter is IDLE (R168). -/
def State.offerDispatch (s : State) : State := if s.dport.sending = none then s.choose else s

/-- A reply is placed in the reply buffer (R170). -/
def State.placeReply (s : State) (payload : Bytes) : State := { s with dport.reply := some payload }.offerDispatch

/-! ### Forwarding (R166, R167) -/

/-- A frame is handed to the forward-up FIFO: it joins, or is discarded and counted (R166). -/
def State.forwardUp (s : State) (f : Bytes) : State :=
  if Config.fifoPlaces ≤ s.dport.up.length then
    { s with dport.counters.upOverflows := countUp s.dport.counters.upOverflows 1 }
  else { s with dport.up := s.dport.up ++ [f] }.offerDispatch

/-- The F-port transmitter takes the forward-down head, or becomes IDLE (R167). -/
def State.takeDown (s : State) : State :=
  match s.fport.down with
  | f :: rest => { s with fport.sending := some f, fport.down := rest }
  | [] => { s with fport.sending := none }

/-- There is a place in the forward-down FIFO (R166). -/
def State.downHasPlace (s : State) : Bool := decide (s.fport.down.length < Config.fifoPlaces)

/-- A frame is handed to the forward-down FIFO: it joins and an IDLE transmitter takes it at once, or it is discarded
and counted (R166, R167). -/
def State.forwardDown (s : State) (f : Bytes) : State :=
  if s.downHasPlace then
    let t := { s with fport.down := s.fport.down ++ [f] }
    if s.fport.sending = none then t.takeDown else t
  else { s with fport.counters.downOverflows := countUp s.fport.counters.downOverflows 1 }

end Sys2Proof.Machine
end

