-- ==== Sys2Proof/Machine/Notices.lean ====
section
/-! DEFINITION. The Notice Builder and the Notice Queue: families, filters, priority, building, coalescing, admission and
withdrawal (R38 to R40, R95 to R106, R123). -/

namespace Sys2Proof.Machine

/-! ### Families (R95) -/

/-- The family a kind belongs to (R95). -/
def NoticeKind.family : NoticeKind → NoticeFamily
  | .out | .silent | .changed | .restored | .unmasked | .transient => .condition
  | .flap | .flapEnd => .flap
  | .adopted => .adopted
  | .escalation => .escalation
  | .sourceSilent | .sourceBack => .source
  | .linkDown | .linkUp => .link
  | .storm => .storm

/-- An entry of a given subject and family (R95). -/
def Notice.isFor (n : Notice) (subject : NoticeSubject) (family : NoticeFamily) : Bool :=
  decide (n.subject = subject) && decide (n.kind.family = family)

/-! ### Coalescing (R101 to R103) -/

/-- The kind of a merged entry (R102). DESIGN CHOICE (log entry 33): R102 gives no row for FLAP into FLAP and FLAP_END into
FLAP_END, and says that they never meet, though live CLASS WRITEs that switch the flap mask off and on let them; the merged
kind is then the requested kind, as in every row for which R102 says no other. -/
def mergeKind (existing requested : NoticeKind) : NoticeKind :=
  match requested, existing with
  | .restored, .out | .restored, .silent | .restored, .unmasked | .restored, .transient => .transient
  | _, _ => requested

/-- The count of a merged entry (R103). -/
def mergeCount (family : NoticeFamily) (existing requested : Nat) : Nat :=
  match family with
  | .adopted => countUp existing requested
  | .source | .link | .storm => countUp existing 1
  | .condition | .flap | .escalation => requested

/-- The entry `e` with the request `n` merged into it: kind by R102, the higher priority, count by R103, everything else
of the request (R101). -/
def mergeNotice (e n : Notice) : Notice :=
  { n with
    kind := mergeKind e.kind n.kind
    priority := max e.priority n.priority
    count := mergeCount n.kind.family e.count n.count }

/-- The queue with the request merged into the entry of its subject and family, which keeps its age; none when there is
no such entry (R101). -/
def coalesce (n : Notice) : List Notice → Option (List Notice)
  | [] => none
  | e :: rest =>
    if e.isFor n.subject n.kind.family then some (mergeNotice e n :: rest) else (coalesce n rest).map (e :: ·)

/-! ### Admission (R104, R105) -/

/-- The lowest priority among the entries. -/
def lowestPriority (es : List Notice) : Nat := (es.map Notice.priority).foldl min Config.priorityTop

/-- The queue without the youngest of its entries of priority `p`. -/
def dropYoungest (p : Nat) (es : List Notice) : List Notice :=
  (es.reverse.eraseP fun e => decide (e.priority = p)).reverse

/-- A request with no entry to merge with is admitted, evicts the youngest of the lowest, or is dropped (R104). -/
def admitNotice (n : Notice) (q : NoticeQueue) : NoticeQueue :=
  if q.entries.length < Config.noticePlaces then { q with entries := q.entries ++ [n] }
  else if lowestPriority q.entries < n.priority then
    { q with entries := dropYoungest (lowestPriority q.entries) q.entries ++ [n], evicted := countUp q.evicted 1 }
  else { q with dropped := countUp q.dropped 1 }

/-- The Notice Queue after a built request has arrived (R100). -/
def arriveAt (n : Notice) (q : NoticeQueue) : NoticeQueue :=
  match coalesce n q.entries with
  | some es => { q with entries := es }
  | none => admitNotice n q

/-- A built request arrives at the Notice Queue, and an IDLE D-port transmitter is offered the head (R100, R168). -/
def State.arrive (s : State) (n : Notice) : State := { s with notices := arriveAt n s.notices }.offerDispatch

/-! ### Filtering (R96, R97) -/

/-- The class mask that covers a kind is on, or none covers it (R96). -/
def maskOn (c : ClassEntry) : NoticeKind → Bool
  | .out | .silent | .unmasked => c.riseMask
  | .restored => c.fallMask
  | .changed => c.changeMask
  | .flap | .flapEnd => c.flapMask
  | .transient | .adopted | .escalation | .sourceSilent | .sourceBack | .linkDown | .linkUp | .storm => true

/-- A kind held back while the record is flapping (R97). -/
def heldByFlapping : NoticeKind → Bool
  | .out | .restored | .changed | .unmasked => true
  | .silent | .transient | .flap | .flapEnd | .adopted | .escalation | .sourceSilent | .sourceBack | .linkDown
  | .linkUp | .storm => false

/-- A request for an asset notice passes the masks and the flapping filter (R96, R97). -/
def State.passesFilters (s : State) (kind : NoticeKind) (a : Nat) : Bool :=
  maskOn (s.classOf a) kind && !((s.record a).flapping && heldByFlapping kind)

/-! ### Priority (R38 to R40) -/

/-- The severity R38 uses: MAJOR for a SILENT notice and for severity none (R39). -/
def prioritySeverity (kind : NoticeKind) (severity : Severity) : Severity :=
  match kind, severity with
  | .silent, _ => .major
  | _, .none => .major
  | _, v => v

/-- The priority from base, minor drop, boost and severity (R38). -/
def assetPriority (c : ClassEntry) (boost : Nat) (severity : Severity) : Nat :=
  let p := match severity with
    | .minor => c.basePriority - c.minorDrop
    | .major | .none => c.basePriority
  min Config.priorityTop (p + boost)

/-- The priority a notice of `kind` and `severity` about asset `a` would carry now (R38, R39). -/
def State.priorityOf (s : State) (kind : NoticeKind) (a : Nat) (severity : Severity) : Nat :=
  assetPriority (s.classOf a) (s.zoneLookup (s.asset a).address).2 (prioritySeverity kind severity)

/-! ### Building (R98, R99, R123) -/

/-- The entry of an asset notice, with the condition, severity, cause and count of its request (R98). -/
def State.assetNotice (s : State) (kind : NoticeKind) (a : Nat) (condition : Condition) (severity : Severity)
    (cause : Option Nat) (count : Nat) : Notice where
  kind := kind
  subject := .asset a
  condition := condition
  severity := severity
  cause := cause
  detail := (s.record a).lastDetail
  zone := (s.zoneLookup (s.asset a).address).1
  priority := s.priorityOf kind a severity
  eventTime := s.now
  count := count
  value := (s.record a).lastValue
  address := (s.asset a).address

/-- An asset notice is requested: filtered, built, and handed to the queue (R96 to R98, R100). -/
def State.requestAsset (s : State) (kind : NoticeKind) (a : Nat) (condition : Condition) (severity : Severity)
    (cause : Option Nat) (count : Nat) : State :=
  if s.passesFilters kind a then s.arrive (s.assetNotice kind a condition severity cause count) else s

/-- An asset notice with the record's own condition, severity and cause and the given count (R60, R65, R98). -/
def State.requestFromRecord (s : State) (kind : NoticeKind) (a count : Nat) : State :=
  s.requestAsset kind a (s.record a).condition (s.record a).severity (s.record a).cause count

/-- The entry of an ESCALATION notice, filled from the context and the record (R98, R123). -/
def State.escalationNotice (s : State) (c : EscalationContext) : Notice where
  kind := .escalation
  subject := .asset c.asset
  condition := (s.record c.asset).condition
  severity := c.severity
  cause := (s.record c.asset).cause
  detail := (s.record c.asset).lastDetail
  zone := (s.zoneLookup c.address).1
  priority := 31
  eventTime := s.now
  count := c.faultCount
  value := (s.record c.asset).lastValue
  address := c.address

/-- The field address of a source, conc.0.0 (R99). -/
def sourceAddress (n : Nat) : FieldAddress := BitVec.ofNat 20 (n * 16384)

/-- The entry of a SOURCE_SILENT or SOURCE_BACK notice (R40, R99). -/
def State.sourceNotice (s : State) (kind : NoticeKind) (n : Nat) (condition : Condition) (severity : Severity) :
    Notice where
  kind := kind
  subject := .source n
  condition := condition
  severity := severity
  cause := none
  detail := 0
  zone := (s.zoneLookup (sourceAddress n)).1
  priority := 28
  eventTime := s.now
  count := 1
  value := none
  address := sourceAddress n

/-- The entry of a LINK_DOWN or LINK_UP notice (R40, R99). -/
def State.linkNotice (s : State) (kind : NoticeKind) (condition : Condition) (severity : Severity) : Notice where
  kind := kind
  subject := .link
  condition := condition
  severity := severity
  cause := none
  detail := 0
  zone := 0
  priority := 31
  eventTime := s.now
  count := 1
  value := none
  address := 0#20

/-- The entry of a STORM notice: the storm floor entered as detail, the rate as value (R40, R99). -/
def State.stormNotice (s : State) (floor rate : Nat) : Notice where
  kind := .storm
  subject := .storm
  condition := .unknown
  severity := .none
  cause := none
  detail := floor
  zone := 0
  priority := 31
  eventTime := s.now
  count := 1
  value := some rate
  address := 0#20

/-! ### Withdrawal (R106) -/

/-- The asset's entries of the condition family and of the flap family leave the queue unsent (R106). -/
def State.withdraw (s : State) (a : Nat) : State :=
  { s with notices.entries := s.notices.entries.filter fun n =>
      !(n.isFor (.asset a) .condition || n.isFor (.asset a) .flap) }

end Sys2Proof.Machine
end

