-- ==== Sys2Proof/Machine/Storm.lean ====
section
/-! DEFINITION. The Storm Monitor and the Escalation Unit: the storm rate, offered qualifications, and the raising of an
escalation (R17, R41, R42, R111, R112, R116 to R119, R122). -/

namespace Sys2Proof.Machine

/-! ### The storm rate (R41, R42) -/

/-- The buckets after one independent qualification in the ten-second period `k` (R41). -/
def countQualification (bs : Table Bucket) (k : Nat) : Table Bucket :=
  let b := tableGet emptyBucket bs (k % 6)
  let n := if b.period = k then b.count else 0
  tableSet emptyBucket bs (k % 6) { period := k, count := min Config.bucketTop (n + 1) }

/-- The storm rate at an offer in period `k`: the counts of the buckets whose period lies in k − 5..k (R42). -/
def stormRate (bs : Table Bucket) (k : Nat) : Nat :=
  (((List.range 6).map (tableGet emptyBucket bs)).map fun b =>
    if k - 5 ≤ b.period ∧ b.period ≤ k then b.count else 0).sum

/-- The qualification is offered to the Storm Monitor: counted in its bucket, and a CALM monitor whose rate reaches a
trigger above 0 enters STORM_AUTO and requests STORM (R112). -/
def State.offerStorm (s : State) : State :=
  let k := s.now / 10
  let s := { s with storm.buckets := countQualification s.storm.buckets k }
  let rate := stormRate s.storm.buckets k
  if s.storm.state = .calm ∧ 0 < s.agent.config.stormTrigger ∧ s.agent.config.stormTrigger ≤ rate then
    let s := { s with storm.state := .auto }
    s.arrive (s.stormNotice s.agent.config.stormFloor rate)
  else s

/-! ### The Escalation Unit (R116 to R119, R122) -/

/-- The context an offer of asset `a`'s qualification carries: the fields of R17 that the unit captures (R116). -/
def State.offerContext (s : State) (kind : NoticeKind) (a : Nat) : EscalationContext where
  asset := a
  address := (s.asset a).address
  cls := (s.asset a).cls
  severity := (s.record a).severity
  priority := s.priorityOf kind a (s.record a).severity
  qualifiedAt := (s.record a).qualifiedAt.getD 0
  faultCount := s.correlator.independentCount

/-- The offer is escalating: an escalating class, no inhibit, and a priority at or above the escalation floor (R117). -/
def State.escalating (s : State) (c : EscalationContext) : Bool :=
  (s.classOf c.asset).escalate && !(s.asset c.asset).inhibit && decide (s.agent.config.escalationFloor ≤ c.priority)

/-- The unit enters RAISED with a context: ALERT follows, and an ESCALATION notice is requested (R118, R122, R123). -/
def State.raise (s : State) (c : EscalationContext) : State :=
  let s := { s with escalation := .raised c }
  s.arrive (s.escalationNotice c)

/-- The qualification is offered to the Escalation Unit: only an ARMED unit tests it, and an escalating one is raised
in CALM and held in a storm (R118, R119). -/
def State.offerEscalation (s : State) (kind : NoticeKind) (a : Nat) : State :=
  match s.escalation with
  | .armed =>
    let c := s.offerContext kind a
    if s.escalating c then
      if s.storm.state = .calm then s.raise c else { s with escalation := .held c }
    else s
  | .disarmed | .raised _ | .held _ => s

/-- The Storm Monitor tells the unit that a storm has ended: a HELD escalation is raised (R122). -/
def State.stormEnded (s : State) : State :=
  match s.escalation with
  | .held c => s.raise c
  | .disarmed | .armed | .raised _ => s

end Sys2Proof.Machine
end

