-- ==== Sys2Proof/Machine/Sweep.lean ====
section
/-! DEFINITION. The Sweep Queue and the three walks over the Active Fault List (R49 to R69). -/

namespace Sys2Proof.Machine

/-! ### Jobs (R49, R50, R53) -/

/-- A job as it joins the queue: it holds no position and no tally (R49). -/
def waitingJob (w : Walk) : SweepJob := { walk := w, state := .waiting, position := none, tally := 0 }

/-- The first job in arrival order starts running, at the head of the list, when it is not running already (R53). -/
def State.startFirst (s : State) : State :=
  match s.sweep.jobs with
  | [] => s
  | j :: rest =>
    if j.state = .waiting then
      { s with sweep.jobs := { j with state := .running, position := s.board.head?, tally := 0 } :: rest }
    else s

/-- A job joins at the tail, and starts at once in an empty queue (R50, R53). -/
def State.joinJob (s : State) (w : Walk) : State :=
  { s with sweep.jobs := s.sweep.jobs ++ [waitingJob w] }.startFirst

/-- The queue holds a job making walk `w`. -/
def State.hasJob (s : State) (w : Walk) : Bool := s.sweep.jobs.any fun j => decide (j.walk = w)

/-- The queue is full with 8 jobs, the running one included (R49). -/
def State.sweepFull (s : State) : Bool := decide (Config.sweepPlaces ≤ s.sweep.jobs.length)

/-- The job making walk `w`, if any, leaves the queue, and the next job starts (R53). -/
def State.removeJob (s : State) (w : Walk) : State :=
  { s with sweep.jobs := s.sweep.jobs.filter fun j => decide (j.walk ≠ w) }.startFirst

/-- The tally of the ADOPT job of a root; 0 without one. -/
def State.adoptTally (s : State) (root : Nat) : Nat :=
  ((s.sweep.jobs.find? fun j => decide (j.walk = .adopt root)).map SweepJob.tally).getD 0

/-- The ADOPT job of a root, if any, ends, at the tail or by cancellation, and requests ADOPTED when its tally is above 0
(R60, R61). -/
def State.endAdopt (s : State) (root : Nat) : State :=
  if s.hasJob (.adopt root) then
    let tally := s.adoptTally root
    let s := s.removeJob (.adopt root)
    if 0 < tally then s.requestFromRecord .adopted root tally else s
  else s

/-- The RELEASE job of a root, if any, is cancelled (R66). -/
def State.cancelRelease (s : State) (root : Nat) : State :=
  if s.hasJob (.release root) then s.removeJob (.release root) else s

/-- The RELEASE job of an asset that has become masking-faulted is cancelled (R66). -/
def State.cancelReleaseIfMasking (s : State) (a : Nat) : State :=
  if s.maskingFaulted a then s.cancelRelease a else s

/-! ### Requests (R50 to R52) -/

/-- ADOPT(root) is requested: merged, queued, or dropped and counted (R50, R51). -/
def State.requestAdopt (s : State) (root : Nat) : State :=
  if s.hasJob (.adopt root) then s
  else if s.sweepFull then { s with sweep.adoptDrops := countUp s.sweep.adoptDrops 1 }
  else s.joinJob (.adopt root)

/-- A RELEASE(root) request would be refused: no job for the root and no place (R50). -/
def State.releaseRefused (s : State) (root : Nat) : Bool :=
  !s.hasJob (.adopt root) && !s.hasJob (.release root) && s.sweepFull

/-- A RELEASE(root) request that is not refused: in the place of a cancelled ADOPT(root), merged, or at the tail (R50). -/
def State.queueRelease (s : State) (root : Nat) : State :=
  if s.hasJob (.adopt root) then (s.endAdopt root).joinJob (.release root)
  else if s.hasJob (.release root) then s
  else s.joinJob (.release root)

/-- A job is an ACK job. -/
def Walk.isAck : Walk → Bool
  | .ack _ => true
  | .adopt _ | .release _ => false

/-- An ACK request merged into a job: differing filters become all zones, and a running walk goes back to the head (R52). -/
def SweepJob.mergeAck (j : SweepJob) (zone : Option Nat) (head : Option Nat) : SweepJob :=
  match j.walk with
  | .ack z =>
    { j with
      walk := .ack (if z = zone then z else none)
      position := if j.state = .running then head else j.position }
  | .adopt _ | .release _ => j

/-- There is an ACK job in the queue. -/
def State.hasAck (s : State) : Bool := s.sweep.jobs.any fun j => j.walk.isAck

/-- An ACK request that is not refused: merged, or at the tail (R50, R52). -/
def State.queueAck (s : State) (zone : Option Nat) : State :=
  if s.hasAck then { s with sweep.jobs := s.sweep.jobs.map fun j => j.mergeAck zone s.board.head? }
  else s.joinJob (.ack zone)

/-! ### Visits (R55, R58, R59, R64, R65, R68) -/

/-- The tests of an ADOPT visit to `e` (R58). -/
def State.adoptable (s : State) (root e : Nat) : Bool :=
  decide (e ≠ root) && (s.record e).independent
    && decide (timeMinus ((s.record root).qualifiedAt.getD 0) (s.classOf root).adoptionWindow
        ≤ (s.record e).qualifiedAt.getD 0)
    && decide (s.ancestor e = some root)

/-- The tally of the running job rises by one (R59). -/
def State.raiseTally (s : State) : State :=
  match s.sweep.jobs with
  | [] => s
  | j :: rest => { s with sweep.jobs := { j with tally := j.tally + 1 } :: rest }

/-- The adoption of `e` by ADOPT(root), in the order of R59. -/
def State.adopt (s : State) (root e : Nat) : State :=
  ((((s.attribute e root).modRecord e fun r => { r with latch := .clear }).withdraw e).uncountIndependent).raiseTally

/-- An ADOPT visit (R58). -/
def State.adoptVisit (s : State) (root e : Nat) : State := if s.adoptable root e then s.adopt root e else s

/-- `e` is unmasked: independent, HELD and told of (R65). -/
def State.unmask (s : State) (e : Nat) : State :=
  let s := ((s.unattribute e).countIndependent).modRecord e fun r => { r with latch := .held }
  s.requestFromRecord .unmasked e (s.record e).dependents

/-- A RELEASE visit: a dependent of the root is re-attributed or unmasked, any other entry passed by (R64, R65). -/
def State.releaseVisit (s : State) (root e : Nat) : State :=
  if (s.record e).cause = some root then
    match s.ancestorExcluding root e with
    | some b => (s.unattribute e).attribute e b
    | none => s.unmask e
  else s

/-- An entry's zone passes an ACK filter (R68). -/
def State.zonePasses (s : State) (zone : Option Nat) (a : Nat) : Bool :=
  match zone with
  | none => true
  | some z => decide ((s.zoneLookup (s.asset a).address).1 = z)

/-- An ACK visit: a HELD entry that is not faulted and lies in the filtered zone is cleared and leaves (R68). -/
def State.ackVisit (s : State) (zone : Option Nat) (e : Nat) : State :=
  if !(s.record e).faulted && decide ((s.record e).latch = .held) && s.zonePasses zone e then s.clearLatch e else s

/-- The walk position of the running job moves to `next` (R55). -/
def State.moveWalk (s : State) (next : Option Nat) : State :=
  match s.sweep.jobs with
  | [] => s
  | j :: rest => { s with sweep.jobs := { j with position := next } :: rest }

/-- A visit to `e`: the position moves first, then the job's test and effect are made (R55). -/
def State.visit (s : State) (w : Walk) (e : Nat) : State :=
  let s := s.moveWalk (s.successor e)
  match w with
  | .adopt root => s.adoptVisit root e
  | .release root => s.releaseVisit root e
  | .ack zone => s.ackVisit zone e

/-- The running job ends past the tail (R53, R60, R63, R69). -/
def State.endWalk (s : State) (w : Walk) : State :=
  match w with
  | .adopt root => s.endAdopt root
  | .release _ | .ack _ => s.removeJob w

/-- A RELEASE job whose root has no dependents (R63). -/
def State.releaseDone (s : State) (w : Walk) : Bool :=
  match w with
  | .release root => decide ((s.record root).dependents = 0)
  | .adopt _ | .ack _ => false

/-- One step of the running job (R53). -/
def State.sweepOnce (s : State) : State :=
  match s.sweep.jobs with
  | [] => s
  | j :: _ =>
    if s.releaseDone j.walk then s.removeJob j.walk
    else
      match j.position with
      | none => s.endWalk j.walk
      | some e => s.visit j.walk e

end Sys2Proof.Machine
end

