-- ==== Sys2Proof/Machine/Correlation.lean ====
section
/-! DEFINITION. The Correlator: qualification, restoration, and the five steps of one status item (R6 to R21, R32 to R37,
R88 to R90). -/

namespace Sys2Proof.Machine

/-! ### Qualification (R13 to R16) -/

/-- The suppressed outcome under `root` (R15), with the join of R13 step 5. -/
def State.suppress (s : State) (a root : Nat) : State := (s.attribute a root).join a

/-- ADOPT is requested for a record of a masking class with an adoption window above 0 (R16 step 6). -/
def State.requestAdoptIfMasking (s : State) (a : Nat) : State :=
  if (s.classOf a).masking && decide (0 < (s.classOf a).adoptionWindow) then s.requestAdopt a else s

/-- The independent outcome: latch, count, notice, offers, join, ADOPT request (R16, R13 step 5; log entry 9). -/
def State.standAlone (s : State) (kind : NoticeKind) (a : Nat) : State :=
  let s := (s.modRecord a fun r => { r with latch := .held }).countIndependent
  let s := s.requestAsset kind a (s.record a).condition (s.record a).severity none (s.record a).dependents
  let s := s.offerStorm
  let s := s.offerEscalation kind a
  (s.join a).requestAdoptIfMasking a

/-- The condition, run, severity and time of a qualification (R13 steps 1 and 2), with the cancellation that becoming
masking-faulted brings (R66). -/
def State.enterFault (s : State) (a : Nat) (condition : Condition) (severity : Severity) : State :=
  (s.modRecord a fun r =>
    { r with condition := condition, run := 0, severity := severity, qualifiedAt := some s.now }).cancelReleaseIfMasking a

/-- A qualification of `a` into `condition` with `severity` and the notice kind given (R13). -/
def State.qualify (s : State) (a : Nat) (condition : Condition) (severity : Severity) (kind : NoticeKind) : State :=
  let s := s.enterFault a condition severity
  match s.ancestor a with
  | some root => s.suppress a root
  | none => s.standAlone kind a

/-! ### Restoration (R18 to R21) -/

/-- The end of the restore for the attribution: a suppressed record is freed, an independent one leaves the count and
is told of (R20 steps 2 and 3). `ended` is the severity of the ended fault, `count` the dependents R19 found. -/
def State.settleRestored (s : State) (a : Nat) (ended : Severity) (count : Nat) (independent : Bool) : State :=
  if independent then (s.uncountIndependent).requestAsset .restored a .normal ended none count
  else s.unattribute a

/-- A restore of `a` that proceeds: the record becomes NORMAL, its RELEASE is queued when it has dependents, and the
rest of R20 follows (R19, R20; log entry 8 for the place of the ADOPTED request). -/
def State.restore (s : State) (a : Nat) : State :=
  let before := s.record a
  let s := s.modRecord a fun r => { r with condition := .normal, run := 0, severity := .none }
  let s := if 0 < before.dependents then s.queueRelease a else s
  let s := s.settleRestored a before.severity before.dependents before.cause.isNone
  (s.leaveUnlessListed a).endAdopt a

/-- A restore attempt: held when it needs a RELEASE job that the full Sweep Queue refuses (R19). -/
def State.attemptRestore (s : State) (a : Nat) : State :=
  if 0 < (s.record a).dependents ∧ s.releaseRefused a then s else s.restore a

/-! ### The steps of an item (R7 to R12) -/

/-- The refresh (R7). -/
def State.refresh (s : State) (a : Nat) (i : Item) (source : Nat) : State :=
  s.modRecord a fun r =>
    { r with lastHeard := some s.now, lastSource := some source, lastDetail := i.detail, lastValue := i.value }

/-- The flap score and stamp decayed to `now` (R35). -/
def flapDecay (halfLife score stamp now : Nat) : Nat × Nat :=
  let n := elapsed stamp now / halfLife
  if 16 ≤ n then (0, now) else (score / 2 ^ n, stamp + n * halfLife)

/-- The item's status falls in the other class from the last status (R36). -/
def alternates (last : Option Status) (status : Status) : Bool :=
  match last with
  | none => false
  | some l => decide (decide (l = .ok) ≠ decide (status = .ok))

/-- The score with the alternation added, stopping at 65,535 (R36). -/
def flapAdd (weight score : Nat) (alternation : Bool) : Nat := if alternation then countUp score weight else score

/-- The flapping mark after the threshold tests (R37). -/
def flapMark (on off score : Nat) (flapping : Bool) : Bool :=
  if flapping then !decide (score ≤ off) else decide (on ≤ score)

/-- The record as flap scoring leaves it (R35 to R37). -/
def scoreRecord (c : ClassEntry) (now : Nat) (status : Status) (r : FaultRecord) : FaultRecord :=
  let decayed := flapDecay c.halfLife r.flapScore r.flapStamp now
  let score := flapAdd c.flapWeight decayed.1 (alternates r.lastStatus status)
  { r with
    flapScore := score
    flapStamp := decayed.2
    flapping := flapMark c.flapOn c.flapOff score r.flapping
    lastStatus := some status }

/-- Flap scoring: the record is scored, and FLAP or FLAP_END requested when the mark changes (R10, R37). -/
def State.scoreFlap (s : State) (a : Nat) (status : Status) : State :=
  let before := (s.record a).flapping
  let s := s.modRecord a (scoreRecord (s.classOf a) s.now status)
  if (s.record a).flapping = before then s
  else s.requestFromRecord (if before then .flapEnd else .flap) a (s.record a).dependents

/-- The severity an item gives (R12). An OK item gives none. -/
def itemSeverity : Status → Severity
  | .ok => .none
  | .degraded => .minor
  | .failed => .major

/-- The record takes FAULT, run 0 and the item's severity; an independent record whose severity changed, or whose
silence ended, requests CHANGED (R11, R12). -/
def State.takeSeverity (s : State) (a : Nat) (severity : Severity) : State :=
  let before := s.record a
  let s := s.modRecord a fun r => { r with condition := .fault, run := 0, severity := severity }
  if (before.severity ≠ severity ∨ before.condition = .silent) ∧ before.cause = none then
    s.requestAsset .changed a .fault severity none before.dependents
  else s

/-- A non-OK item in UNKNOWN, NORMAL or SUSPECT with `run` counted: SUSPECT, or a qualification when run reaches Q
(R11, R13). -/
def State.suspect (s : State) (a run : Nat) (severity : Severity) : State :=
  if (s.classOf a).qualifyCount ≤ run then s.qualify a .fault severity .out
  else s.modRecord a fun r => { r with condition := .suspect, run := run }

/-- An OK item in FAULT, SILENT or RECOVERING with `run` counted: RECOVERING, and a restore attempt when run reaches P
(R11, R18). -/
def State.recover (s : State) (a run : Nat) : State :=
  let p := (s.classOf a).restoreCount
  let s := s.modRecord a fun r => { r with condition := .recovering, run := min run p }
  if p ≤ run then s.attemptRestore a else s

/-- The condition machine on an OK item (R11). -/
def State.machineOk (s : State) (a : Nat) : State :=
  match (s.record a).condition with
  | .unknown | .normal | .suspect => s.modRecord a fun r => { r with condition := .normal, run := 0 }
  | .fault | .silent => s.recover a 1
  | .recovering => s.recover a ((s.record a).run + 1)
  | .outOfService => s

/-- The condition machine on a non-OK item (R11). -/
def State.machineNotOk (s : State) (a : Nat) (severity : Severity) : State :=
  match (s.record a).condition with
  | .unknown | .normal => s.suspect a 1 severity
  | .suspect => s.suspect a ((s.record a).run + 1) severity
  | .fault | .recovering | .silent => s.takeSeverity a severity
  | .outOfService => s

/-- The condition machine (R11). -/
def State.runMachine (s : State) (a : Nat) (status : Status) : State :=
  match status with
  | .ok => s.machineOk a
  | .degraded | .failed => s.machineNotOk a (itemSeverity status)

/-- The out-of-service gate, flap scoring and the condition machine (R9 to R11). -/
def State.judgeItem (s : State) (a : Nat) (status : Status) : State :=
  if (s.record a).condition = .outOfService then s else (s.scoreFlap a status).runMachine a status

/-- A test holdoff is running for the record at `now`: now is less than test until (R8, R26), the two compared as plain
numbers (R30). DESIGN CHOICE (log entry 30): where the time base is held at 4,294,967,295 these rules end a holdoff that ends
there, and a sentence in the text after R29 says that it never ends; the model follows R8 and R26, the rules of the gate. -/
def FaultRecord.holdoffRunning (r : FaultRecord) (now : Nat) : Bool :=
  match r.testUntil with
  | none => false
  | some t => decide (now < t)

/-- One mapped item for asset `a`: refresh, test holdoff gate, then the rest (R6 to R8). -/
def State.processItem (s : State) (a : Nat) (i : Item) (status : Status) (source : Nat) : State :=
  let s := s.refresh a i source
  if (s.record a).holdoffRunning s.now then
    if status = .ok then s.judgeItem a status
    else s.modSource source fun e => { e with testItems := countUp e.testItems 1 }
  else (s.modRecord a fun r => { r with testUntil := none }).judgeItem a status

/-! ### The Silence Scanner (R32, R33, R86 to R90) -/

/-- The scanner runs (R86). -/
def State.scannerRuns (s : State) : Bool := !s.inReset && s.ready && s.correlating && s.linkPass

/-- The restored-at time of the record's last source, when both are present (R32). -/
def State.lastSourceRestored (s : State) (a : Nat) : Option Nat :=
  match (s.record a).lastSource with
  | none => none
  | some n => (s.source n).restoredAt

/-- The reference time of a record's silence deadline: the largest of the times present (R32). -/
def State.silenceReference (s : State) (a : Nat) : Nat :=
  max (max ((s.record a).lastHeard.getD 0) ((s.lastSourceRestored a).getD 0)) s.correlator.resumeTime

/-- The conditions the scanner considers (R88). -/
def Condition.scanned : Condition → Bool
  | .unknown | .normal | .suspect | .fault | .recovering => true
  | .silent | .outOfService => false

/-- The record's last source does not shield it: none, or ALIVE (R88). -/
def State.unshielded (s : State) (a : Nat) : Bool :=
  match (s.record a).lastSource with
  | none => true
  | some n => decide ((s.source n).state = .alive)

/-- The record is considered and silent (R33, R88). -/
def State.silentNow (s : State) (a : Nat) : Bool :=
  (s.record a).condition.scanned && decide (0 < (s.classOf a).silenceMultiple) && s.unshielded a
    && decide ((s.classOf a).reportPeriod * (s.classOf a).silenceMultiple < elapsed (s.silenceReference a) s.now)

/-- The silence of a standing fault (R90). -/
def State.silenceStanding (s : State) (a : Nat) : State :=
  let before := s.record a
  let s := s.modRecord a fun r => { r with condition := .silent, run := 0, severity := .major }
  if before.cause = none then s.requestAsset .changed a .silent .major none before.dependents else s

/-- The silence transition of a silent record (R89, R90). -/
def State.goSilent (s : State) (a : Nat) : State :=
  match (s.record a).condition with
  | .fault | .recovering => s.silenceStanding a
  | .unknown | .normal | .suspect | .silent | .outOfService => s.qualify a .silent .major .silent

/-- One visit: the position moves past the record, and a silent record makes its transition (R87). -/
def State.scanOnce (s : State) : State :=
  let a := s.scan
  let s := { s with scan := if a + 1 < s.tables.assetCount then a + 1 else 0 }
  if s.silentNow a then s.goSilent a else s

end Sys2Proof.Machine
end

