-- ==== Sys2Proof/Machine/Link.lean ====
section
/-! DEFINITION. The Link Qualifier and the Source Monitor: the F-link's state, its watchdog, and the taking of reports (R34,
R145 to R158). -/

namespace Sys2Proof.Machine

/-! ### The F-link (R145 to R151) -/

/-- A source at the link's entry to PASS: its sequences are forgotten (R150 step 3). -/
def SourceEntry.forgetSequence (e : SourceEntry) : SourceEntry := { e with expected := none, lastAccepted := none }

/-- The link enters PASS (R150). A watchdog mark of the last advance lapses (log entry 6). -/
def State.enterPass (s : State) : State :=
  let s := ({ s with
    link.state := .pass, link.run := 0, link.passedAt := some s.now, link.watchdogDue := false }).resume
  let s := { s with sources.table := tableMap unusedSource (fun _ e => e.forgetSequence) s.sources.table }
  s.arrive (s.linkNotice .linkUp .normal .none)

/-- The link leaves PASS for `next` (R150). A watchdog mark of the last advance lapses (log entry 6). -/
def State.leavePass (s : State) (next : LinkState) : State :=
  let s := { s with link.state := next, link.run := 0, link.watchdogDue := false }
  s.arrive (s.linkNotice .linkDown .silent .major)

/-- A QUALIFYING link whose run reaches the pass threshold enters PASS (R147, R151). -/
def State.passIfRun (s : State) : State :=
  if s.link.state = .qualifying ∧ s.agent.config.passThreshold ≤ s.link.run then s.enterPass else s

/-- A good frame sets last good frame in every link state, and answers a watchdog that the last advance marked (R34,
R147; log entry 6). -/
def State.hearGood (s : State) : State := { s with link.lastGood := some s.now, link.watchdogDue := false }

/-- The Link Qualifier takes a judged frame (R147, R148). DESIGN CHOICE (log entry 31): R149 says that with N = 0 the link
stays PASS as long as the line signal does, and R148 excepts no N from STRICT; the model follows R148, so a STRICT check
failure takes a PASS link with N = 0 to QUALIFYING, and the next good frame brings it back. -/
def State.qualifyLink (s : State) (j : Judgement) : State :=
  match j, s.link.state with
  | .good, .qualifying => { s.hearGood with link.run := s.link.run + 1 }.passIfRun
  | .good, .down | .good, .pass => s.hearGood
  | .checkFailure, .qualifying | .malformed, .qualifying => { s with link.run := 0 }
  | .checkFailure, .pass =>
    match s.agent.config.errorMode with
    | .strict => s.leavePass .qualifying
    | .lenient => s
  | .malformed, .pass | .checkFailure, .down | .malformed, .down => s

/-- The reference of the link watchdog: the later of last good frame and passed at (R149). -/
def State.watchdogReference (s : State) : Nat := max (s.link.lastGood.getD 0) (s.link.passedAt.getD 0)

/-- The watchdog test: the link is PASS, N is above 0 and more than 2 × K has passed (R34, R149). -/
def State.watchdogExpired (s : State) : Bool :=
  s.linkPass && decide (0 < s.agent.config.passThreshold)
    && decide (2 * s.agent.config.keepalive < elapsed s.watchdogReference s.now)

/-! ### Sources (R152 to R157) -/

/-- The conditions under which source silence is tested (R156). -/
def State.sourcesTested (s : State) : Bool := s.ready && s.correlating && s.linkPass

/-- The silence test of a source (R34, R156). -/
def State.sourceExpired (s : State) (n : Nat) : Bool :=
  s.sourcesTested && (decide ((s.source n).state = .waiting) || decide ((s.source n).state = .alive))
    && decide (s.agent.config.keepalive * s.agent.config.sourceMultiple
        < elapsed (max ((s.source n).lastFrameTime.getD 0) s.correlator.resumeTime) s.now)

/-- The source becomes SILENT and SOURCE_SILENT is requested (R156). -/
def State.silenceSource (s : State) (n : Nat) : State :=
  let s := s.modSource n fun e => { e with state := .silent }
  s.arrive (s.sourceNotice .sourceSilent n .silent .major)

/-- The state change of an accepted report (R155). -/
def SourceEntry.hear (e : SourceEntry) (now : Nat) : SourceEntry :=
  match e.state with
  | .waiting | .silent => { e with state := .alive, restoredAt := some now }
  | .alive | .unused => e

/-- Frames lost before a report of sequence `q`: the modulo-256 difference from a known expected sequence (R31, R154). -/
def lostBefore (expected : Option Nat) (q : Nat) : Nat :=
  match expected with
  | none => 0
  | some x => (q + 256 - x) % 256

/-- A source's entry after an accepted report of sequence `q` (R154 steps 1 to 4). -/
def SourceEntry.accept (e : SourceEntry) (q now : Nat) : SourceEntry :=
  SourceEntry.hear
    { e with
      lostFrames := countUp e.lostFrames (lostBefore e.expected q)
      expected := some ((q + 1) % 256)
      lastAccepted := some q
      lastFrameTime := some now
      framesAccepted := countUp e.framesAccepted 1 } now

/-- One item of an accepted report: malformed, unmapped, or processed for its asset (R157). -/
def State.takeItem (s : State) (source channel : Nat) (i : Item) : State :=
  match i.status with
  | none => s.modSource source fun e => { e with malformedItems := countUp e.malformedItems 1 }
  | some status =>
    match mapPoint s.tables source channel i.point with
    | none => s.modSource source fun e => { e with unmappedItems := countUp e.unmappedItems 1 }
    | some a => s.processItem a i status source

/-- The items of an accepted report in the order they stand (R6, R157). -/
def State.takeItems (s : State) (source channel : Nat) : List Item → State
  | [] => s
  | i :: rest => (s.takeItem source channel i).takeItems source channel rest

/-- A report of sequence `q` is accepted: the entry is updated, and a SILENT source requests SOURCE_BACK (R154, R155). -/
def State.acceptReport (s : State) (n q : Nat) : State :=
  let wasSilent := decide ((s.source n).state = .silent)
  let s := s.modSource n fun e => e.accept q s.now
  if wasSilent then s.arrive (s.sourceNotice .sourceBack n .normal .none) else s

/-- A taken report: a duplicate is counted, any other accepted and its items processed (R154, R157). -/
def State.takeReport (s : State) (f : Bytes) : State :=
  let n := frameNode f
  if (s.source n).lastAccepted = some (frameSequence f) then
    s.modSource n fun e => { e with duplicates := countUp e.duplicates 1 }
  else (s.acceptReport n (frameSequence f)).takeItems n (frameChannel f) (itemsOf (framePayload f))

/-- The Source Monitor takes a good REPORT (R153). -/
def State.takes (s : State) (f : Bytes) : Bool :=
  s.ready && s.correlating && s.linkPass && decide ((s.source (frameNode f)).state ≠ .unused)

/-- A good REPORT is taken, or counted uncorrelated (R153, R164). -/
def State.correlateReport (s : State) (f : Bytes) : State :=
  if s.takes f then s.takeReport f
  else { s with fport.counters.uncorrelated := countUp s.fport.counters.uncorrelated 1 }

/-! ### The advance of the time base (R29, R34) -/

/-- The sources whose silence test finds their window run out. -/
def State.expiredSources (s : State) : List Nat := (List.range Config.sourceLimit).filter fun n => s.sourceExpired n

/-- The time base advances by one second, and the deadlines of R34 are evaluated; at its greatest value it holds (R29). -/
def State.advance (s : State) : State :=
  if s.agent.time < Config.timeTop then
    let s := { s with agent.time := s.agent.time + 1 }
    { s with link.watchdogDue := s.watchdogExpired, sources.due := s.expiredSources }
  else s

end Sys2Proof.Machine
end

