-- ==== Sys2Proof/Machine/Receive.lean ====
section
/-! DEFINITION. What the two ports do with a received frame (R25, R163 to R165). -/

namespace Sys2Proof.Machine

/-- The F-port keeps the frame's bytes and counts its judgement (R163, R171). -/
def State.countField (s : State) (f : Bytes) (j : Judgement) : State :=
  let s := { s with fport.receive := f.take Config.receiveBytes }
  match j with
  | .good => { s with fport.counters.good := countUp s.fport.counters.good 1 }
  | .checkFailure => { s with fport.counters.checkFailures := countUp s.fport.counters.checkFailures 1 }
  | .malformed => { s with fport.counters.malformed := countUp s.fport.counters.malformed 1 }

/-- The D-port keeps the frame's bytes and counts its judgement (R163, R171). -/
def State.countDispatch (s : State) (f : Bytes) (j : Judgement) : State :=
  let s := { s with dport.receive := f.take Config.receiveBytes }
  match j with
  | .good => { s with dport.counters.good := countUp s.dport.counters.good 1 }
  | .checkFailure => { s with dport.counters.checkFailures := countUp s.dport.counters.checkFailures 1 }
  | .malformed => { s with dport.counters.malformed := countUp s.dport.counters.malformed 1 }

/-- A good REPORT on the F-port: forwarded by the mode alone, then taken or counted uncorrelated (R164; log entry 10). -/
def State.handReport (s : State) (f : Bytes) : State :=
  (if s.agent.mode = .correlate then s else s.forwardUp f).correlateReport f

/-- A good frame on the F-port is handed on by its kind (R164). -/
def State.handField (s : State) (f : Bytes) : State :=
  if frameKind f = kindReport then s.handReport f
  else if frameKind f = kindNotice ∨ frameKind f = kindReply then s.forwardUp f
  else { s with fport.counters.wrongDirection := countUp s.fport.counters.wrongDirection 1 }

/-- A frame ends on the F-port: judged, taken by the Link Qualifier, and handed on when good (R147, R163). -/
def State.receiveField (s : State) (f : Bytes) : State :=
  let s := (s.countField f (judge f)).qualifyLink (judge f)
  if judge f = .good then s.handField f else s

/-- The TEST command code (R161). -/
def testCode : Nat := 0x54

/-- A COMMAND payload that carries a TEST detection (R25, R165). -/
def isTest (payload : Bytes) : Bool := decide (3 ≤ payload.length) && decide (byteAt payload 0 = testCode)

/-- The test holdoff of asset `a` is set from its class; a holdoff of 0 sets nothing (R25). -/
def State.setHoldoff (s : State) (a : Nat) : State :=
  if 0 < (s.classOf a).testHoldoff then
    s.modRecord a fun r => { r with testUntil := some (timePlus s.now (s.classOf a).testHoldoff) }
  else s

/-- A TEST detection is mapped while READY, and sets the asset's holdoff (R25). -/
def State.detectTest (s : State) (f : Bytes) : State :=
  if s.ready then
    match mapPoint s.tables (frameNode f) (frameChannel f) (numAt (framePayload f) 1 2 % 1024) with
    | none => s
    | some a => s.setHoldoff a
  else s

/-- A good COMMAND on the D-port: into the forward-down FIFO, and inspected if it joined (R165). -/
def State.handCommand (s : State) (f : Bytes) : State :=
  if s.downHasPlace ∧ isTest (framePayload f) then (s.forwardDown f).detectTest f else s.forwardDown f

/-- A good frame on the D-port is handed on by its kind and node (R165). -/
def State.handDispatch (s : State) (f : Bytes) : State :=
  if frameKind f = kindCommand then s.handCommand f
  else if frameKind f = kindMgmt then
    if frameNode f = s.straps.node then s.queueCommand f else s.forwardDown f
  else { s with dport.counters.wrongDirection := countUp s.dport.counters.wrongDirection 1 }

/-- A frame ends on the D-port: judged, and handed on when good (R163). -/
def State.receiveDispatch (s : State) (f : Bytes) : State :=
  let s := s.countDispatch f (judge f)
  if judge f = .good then s.handDispatch f else s

end Sys2Proof.Machine
end

