-- ==== Sys2Proof/Machine/Operands.lean ====
section
/-! DEFINITION. The operands of the management commands: which row of the table a MGMT payload runs, and how its argument
bytes are read and range-tested (R136, R161, R174 to R176). The vector is payload byte 0, the tag byte 1, the arguments
follow from byte 2. -/

namespace Sys2Proof.Machine

/-- The rows of the table that a MGMT payload can run. -/
inductive CommandRow where
  | badVector | status | config | timeSet | setMode | restartClear | restartFull | readCountersPort | readCountersSource
  | loadBegin | loadEnd | classWrite | templateWrite | assetWrite | trunkWrite | queryAsset | queryList | ackFault
  | ackRestored | setServiceOut | setServiceIn | stormOn | stormOff | escArm | escAck | flashErase | flashWrite
  deriving DecidableEq, Repr

/-- The arguments of a MGMT payload (R161). -/
def arguments (p : Bytes) : Bytes := p.drop 2

/-- The row whose step executes a MGMT payload: by its vector, and for vectors shared by two rows by the choice byte
(R176; log entry 5 for a payload whose choice byte is missing or out of range). -/
def commandRow (p : Bytes) : CommandRow :=
  if p.length < 2 then .badVector
  else
    match byteAt p 0 with
    | 1 => .status
    | 2 => .config
    | 3 => .timeSet
    | 4 => .setMode
    | 5 => if byteAt (arguments p) 0 = 1 then .restartFull else .restartClear
    | 6 => if byteAt (arguments p) 0 = 1 then .readCountersSource else .readCountersPort
    | 8 => .loadBegin
    | 9 => .loadEnd
    | 10 => .classWrite
    | 11 => .templateWrite
    | 12 => .assetWrite
    | 13 => .trunkWrite
    | 16 => .queryAsset
    | 17 => .queryList
    | 18 => .ackFault
    | 19 => .ackRestored
    | 20 => if byteAt (arguments p) 2 = 1 then .setServiceIn else .setServiceOut
    | 24 => if byteAt (arguments p) 0 = 1 then .stormOn else .stormOff
    | 25 => .escArm
    | 26 => .escAck
    | 30 => .flashErase
    | 31 => .flashWrite
    | _ => .badVector

/-- The reply statuses (R161). -/
inductive ReplyStatus where
  | done | badVector | badLength | range | state | busy | invalid | cursorLost
  deriving DecidableEq, Repr

/-- The reply status codes (R161). -/
def replyCode : ReplyStatus → Nat
  | .done => 0 | .badVector => 1 | .badLength => 2 | .range => 3 | .state => 4 | .busy => 5 | .invalid => 6
  | .cursorLost => 7

/-- A yes/no argument: 0 or 1 (R176). -/
def isFlag (n : Nat) : Bool := decide (n ≤ 1)

/-- An asset index or cursor of two bytes, 0xFFFF for none (R176). -/
def optionalIndex (n : Nat) : Option Nat := if n = 65535 then none else some n

/-- The `n`-byte entries of an argument list (R176). -/
def entriesOf (n : Nat) (a : Bytes) : List Bytes := (List.range (a.length / n)).map fun i => (a.drop (i * n)).take n

/-- The argument length is a whole number of `n`-byte entries, 1 to `most` (R176). -/
def entryLengthOk (n most : Nat) (a : Bytes) : Bool :=
  decide (a.length % n = 0) && decide (1 ≤ a.length / n) && decide (a.length / n ≤ most)

/-! ### CONFIG (R176, R178) -/

/-- The configuration set that CONFIG's arguments carry. -/
def configOf (a : Bytes) : ConfigSet where
  passThreshold := byteAt a 0
  errorMode := if byteAt a 1 = 1 then .lenient else .strict
  keepalive := byteAt a 2
  sourceMultiple := byteAt a 3
  escalationFloor := byteAt a 4
  stormTrigger := numAt a 5 2
  stormFloor := byteAt a 7
  stat0 := byteAt a 8
  stat1 := byteAt a 9

/-- The ranges of CONFIG (R176). -/
def configInRange (a : Bytes) : Bool :=
  let c := configOf a
  decide (c.passThreshold ≤ 15) && isFlag (byteAt a 1) && decide (1 ≤ c.keepalive ∧ c.keepalive ≤ 60)
    && decide (2 ≤ c.sourceMultiple ∧ c.sourceMultiple ≤ 15) && decide (c.escalationFloor ≤ 31)
    && decide (c.stormTrigger ≤ 4095) && decide (c.stormFloor ≤ 31) && decide (c.stat0 ≤ 7) && decide (c.stat1 ≤ 7)

/-- The mode codes (R176). -/
def modeOf (n : Nat) : Option Mode :=
  if n = 0 then some .passThrough else if n = 1 then some .monitor else if n = 2 then some .correlate else none

/-! ### Table write entries (R131, R133, R136, R176) -/

/-- The class a CLASS WRITE names. -/
def classIndex (a : Bytes) : Nat := byteAt a 0

/-- The attribute marks of a CLASS WRITE: masking in bit 0, then escalate, rise, fall, change and flap (log entry 4). -/
def classMark (a : Bytes) (bit : Nat) : Bool := (byteAt a 8).testBit bit

/-- The class fields a CLASS WRITE carries (R131, R176). -/
def classEntryOf (a : Bytes) : ClassEntry where
  qualifyCount := byteAt a 1
  restoreCount := byteAt a 2
  reportPeriod := numAt a 3 2
  silenceMultiple := byteAt a 5
  basePriority := byteAt a 6
  minorDrop := byteAt a 7
  masking := classMark a 0
  escalate := classMark a 1
  riseMask := classMark a 2
  fallMask := classMark a 3
  changeMask := classMark a 4
  flapMask := classMark a 5
  adoptionWindow := numAt a 9 2
  flapWeight := numAt a 11 2
  halfLife := numAt a 13 2
  flapOn := numAt a 15 2
  flapOff := numAt a 17 2
  testHoldoff := numAt a 19 2

/-- The ranges of a class entry (R131). -/
def ClassEntry.inRange (c : ClassEntry) : Bool :=
  decide (1 ≤ c.qualifyCount ∧ c.qualifyCount ≤ 15) && decide (1 ≤ c.restoreCount ∧ c.restoreCount ≤ 15)
    && decide (1 ≤ c.reportPeriod ∧ c.reportPeriod ≤ 3600)
    && decide (c.silenceMultiple = 0 ∨ (2 ≤ c.silenceMultiple ∧ c.silenceMultiple ≤ 15))
    && decide (c.basePriority ≤ 31) && decide (c.minorDrop ≤ 31) && decide (c.adoptionWindow ≤ 600)
    && decide (c.flapWeight ≤ 4095) && decide (1 ≤ c.halfLife ∧ c.halfLife ≤ 3600)
    && decide (1 ≤ c.flapOn) && decide (c.flapOff < c.flapOn) && decide (c.testHoldoff ≤ 600)

/-- The range test of a CLASS WRITE entry (R136). -/
def classInRange (a : Bytes) : Bool := decide (classIndex a ≤ 15) && (classEntryOf a).inRange

/-- The template a TEMPLATE WRITE entry names. -/
def templateIndex (e : Bytes) : Nat := byteAt e 0

/-- The fields a TEMPLATE WRITE entry carries (R133, R176). -/
def templateOf (e : Bytes) : ZoneTemplate where
  valid := decide (byteAt e 1 = 1)
  base := BitVec.ofNat 20 (numAt e 2 3)
  mask := BitVec.ofNat 20 (numAt e 5 3)
  zone := byteAt e 8
  boost := byteAt e 9

/-- The range test of a TEMPLATE WRITE entry (R136, R176). -/
def templateInRange (e : Bytes) : Bool :=
  decide (templateIndex e ≤ 15) && isFlag (byteAt e 1) && decide (numAt e 2 3 < 1048576) && decide (numAt e 5 3 < 1048576)
    && decide (byteAt e 8 ≤ 15) && decide (byteAt e 9 ≤ 7)

/-- The asset an ASSET WRITE entry names. -/
def assetIndex (e : Bytes) : Nat := numAt e 0 2

/-- The fields an ASSET WRITE entry carries: class, parent, and three bytes with the inhibit in the top bit and the field
address in the low 20 bits (R130, R176). A written entry has its written mark set. -/
def assetOf (e : Bytes) : AssetEntry where
  cls := byteAt e 2
  parent := optionalIndex (numAt e 3 2)
  address := BitVec.ofNat 20 (numAt e 5 3)
  inhibit := (numAt e 5 3).testBit 23
  written := true

/-- The range test of an ASSET WRITE entry (R136). -/
def assetInRange (e : Bytes) : Bool :=
  decide (assetIndex e < Config.assetLimit) && decide (byteAt e 2 ≤ 15)
    && decide (numAt e 3 2 = 65535 ∨ numAt e 3 2 < Config.assetLimit)

/-- The source a TRUNK WRITE entry names. -/
def trunkSource (e : Bytes) : Nat := byteAt e 0

/-- The channel a TRUNK WRITE entry names. -/
def trunkChannel (e : Bytes) : Nat := byteAt e 1

/-- The entry a TRUNK WRITE entry carries; one written invalid carries no base and length (R127, R136). -/
def trunkOf (e : Bytes) : Option TrunkRun :=
  if byteAt e 2 = 1 then some { base := numAt e 3 2, length := numAt e 5 2 } else none

/-- A valid trunk entry has its base and length in range, and lies within `limit` assets where one is given (R136). -/
def TrunkRun.inRange (r : TrunkRun) (limit : Option Nat) : Bool :=
  decide (r.base < Config.assetLimit) && decide (1 ≤ r.length ∧ r.length ≤ 1024)
    && (limit.elim true fun n => decide (r.base + r.length ≤ n))

/-- The range test of a TRUNK WRITE entry; `limit` is the asset count in READY (R136). -/
def trunkInRange (limit : Option Nat) (e : Bytes) : Bool :=
  decide (trunkSource e ≤ 63) && decide (trunkChannel e ≤ 15) && isFlag (byteAt e 2)
    && ((trunkOf e).elim true fun r => r.inRange limit)

/-! ### QUERY LIST and ACK RESTORED (R80, R176) -/

/-- The filter of a QUERY LIST (R80). -/
inductive ListFilter where
  | all | independent | zone (z : Nat)
  deriving DecidableEq, Repr

/-- The filter that a filter code and zone byte name; none when out of range (R176). -/
def listFilterOf (code zone : Nat) : Option ListFilter :=
  if code = 0 then some .all
  else if code = 1 then some .independent
  else if code = 2 ∧ zone ≤ 15 then some (.zone zone)
  else none

/-- The zone filter of ACK RESTORED: `some none` for all zones; none when out of range (R176). -/
def ackFilterOf (code zone : Nat) : Option (Option Nat) :=
  if code = 0 then some none else if code = 1 ∧ zone ≤ 15 then some (some zone) else none

end Sys2Proof.Machine
end

