-- ==== Sys2Proof/Machine/Agent.lean ====
section
/-! DEFINITION. How the Management Agent ends a command, live or replayed, and how a row of the table runs the command the
agent is executing (R173 to R175, R187). -/

namespace Sys2Proof.Machine

/-- The outcome of a command's first action: its reply with status and results, or a long command that goes on (R173). -/
inductive Ending where
  | reply (s : State) (status : ReplyStatus) (results : Bytes)
  | goesOn (s : State)

/-- A refusal: nothing changes, and the reply carries the status and no results (R174, R175). -/
def refuse (s : State) (status : ReplyStatus) : Ending := .reply s status []

/-- A command done with no results. -/
def done (s : State) : Ending := .reply s .done []

/-- The REPLY payload: vector, tag, status and results; a vector or tag not received is 0 (R161, R174). -/
def replyPayload (p : Bytes) (status : ReplyStatus) (results : Bytes) : Bytes :=
  byte1 (byteAt p 0) ++ byte1 (byteAt p 1) ++ byte1 (replyCode status) ++ results

/-- The replay ends: initialisation ends, and the agent is IDLE and takes the Command Queue (R187). -/
def State.endReplay (s : State) : State := { s with initialising := false, agent.state := .idle }.takeCommand

/-- The replay fails at a stored frame: the boot-failed flag is set with its ordinal, and the replay ends (R187). -/
def State.failReplay (s : State) (ordinal : Nat) : State :=
  { s with agent.bootFailed := true, agent.bootOrdinal := ordinal }.endReplay

/-- The command in execution ends with a reply: placed in the reply buffer (R173), or, in the replay, discarded, the
replay going on after DONE and failing after any other status (R187). -/
def State.finish (s : State) (status : ReplyStatus) (results : Bytes) : State :=
  match s.agent.state with
  | .executing p => { s with agent.state := .replyWaiting }.placeReply (replyPayload p status results)
  | .replaying offset executed (some _) =>
    if status = .done then { s with agent.state := .replaying offset (executed + 1) none }
    else s.failReplay (executed + 1)
  | .held | .idle | .replyWaiting | .replaying _ _ none => s

/-- The state a command's first action leaves. -/
def Ending.settle : Ending → State
  | .reply s status results => s.finish status results
  | .goesOn s => s

/-- The step of row `row`: when the agent is executing a frame of that row, in its first action, `body` runs on the
frame's payload; at any other time the step does not occur and nothing changes (log entry 7). -/
def State.runRow (s : State) (row : CommandRow) (body : Bytes → State → Ending) : State :=
  match s.agent.state with
  | .executing p => if !s.inReset ∧ s.agent.long = none ∧ commandRow p = row then (body p s).settle else s
  | .held | .idle | .replyWaiting | .replaying _ _ _ => s

/-- A command is executed from the boot replay. -/
def State.inReplay (s : State) : Bool :=
  match s.agent.state with
  | .replaying _ _ _ => true
  | .held | .idle | .executing _ | .replyWaiting => false

/-- The argument length of a payload (R175). -/
def argumentLength (p : Bytes) : Nat := (arguments p).length

end Sys2Proof.Machine
end

