-- ==== Sys2Proof/Machine/Loading.lean ====
section
/-! DEFINITION. The loaded tables' life: live edits and the run adjustment, the clearing act of restarts, and validation
(R5, R126, R129, R135 to R144, R152, R182). -/

namespace Sys2Proof.Machine

/-! ### Run adjustment (R5) -/

/-- A record's run brought within the new Q and P when the class that governs it changes them (R5). -/
def adjustRun (old new : ClassEntry) (r : FaultRecord) : FaultRecord :=
  if r.condition = .suspect ∧ old.qualifyCount ≠ new.qualifyCount ∧ new.qualifyCount ≤ r.run then
    { r with run := new.qualifyCount - 1 }
  else if r.condition = .recovering ∧ old.restoreCount ≠ new.restoreCount ∧ new.restoreCount ≤ r.run then
    { r with run := new.restoreCount - 1 }
  else r

/-- The runs of all records brought within the bounds of the classes as `s` has them, where they were as in `before`;
only while READY (R5). DESIGN CHOICE (log entry 32): a command that names one asset twice (R135) changes the class governing it
from what it was before the whole command to what it is after it; the class the first entry gave adjusts no run. -/
def State.adjustRuns (s before : State) : State :=
  if s.ready then
    { s with correlator.records :=
        tableMap clearRecord (fun a r => adjustRun (before.classOf a) (s.classOf a) r) s.correlator.records }
  else s

/-! ### Use of sources (R129, R152) -/

/-- A source's entry at the start or end of its use: sequences and times forgotten, counters kept (R152). -/
def SourceEntry.restart (e : SourceEntry) (state : SourceState) : SourceEntry :=
  { e with state := state, expected := none, lastAccepted := none, lastFrameTime := none, restoredAt := none }

/-- A source's entry after a live change of the Trunk Map (R129). -/
def useChange (before after : LoadedTables) (n : Nat) (e : SourceEntry) : SourceEntry :=
  if sourceUsed before n = sourceUsed after n then e
  else if sourceUsed after n then e.restart .waiting
  else e.restart .unused

/-- Every source's entry changed by `f`, in source order. -/
def changeSources (f : Nat → SourceEntry → SourceEntry) (t : Table SourceEntry) : Table SourceEntry :=
  (List.range Config.sourceLimit).foldl (fun t n => tableSet unusedSource t n (f n (tableGet unusedSource t n))) t

/-- The Source Table after a live change of the Trunk Map; only while READY (R129). A command that names one entry twice
(R135) changes a source's use from before the whole command to after it (DESIGN CHOICE, log entry 32). -/
def State.followUse (s before : State) : State :=
  if s.ready then
    { s with
      sources.table := changeSources (useChange before.tables s.tables) s.sources.table
      sources.due := s.sources.due.filter fun n => decide (sourceUsed before.tables n = sourceUsed s.tables n) }
  else s

/-- The Source Table of a load that succeeds: every used source WAITING, counters kept (R129, R152). -/
def State.startSources (s : State) : State :=
  let start := fun n (e : SourceEntry) => if sourceUsed s.tables n then e.restart .waiting else e
  { s with sources.table := changeSources start s.sources.table }

/-! ### Table writes (R135 to R140) -/

/-- The first entry of a command that fails its test, with its code and its place, 1 for the first (R135). -/
def firstFailure (test : Bytes → Option ReplyStatus) : Nat → List Bytes → Option (ReplyStatus × Nat)
  | _, [] => none
  | place, e :: rest =>
    match test e with
    | some status => some (status, place)
    | none => firstFailure test (place + 1) rest

/-- A table write: every entry is tested, the first failure refuses the command and names its place, and otherwise all
are written in one action (R135). -/
def tableWrite (s : State) (entries : List Bytes) (test : Bytes → Option ReplyStatus) (write : State) : Ending :=
  match firstFailure test 1 entries with
  | some (status, place) => .reply s status (byte1 place)
  | none => done write

/-- LOADING or READY: the states a table write executes in (R135). -/
def State.tablesOpen (s : State) : Bool := decide (s.correlator.state = .loading) || s.ready

/-- The test of a CLASS WRITE entry (R136, R137). -/
def State.classTest (s : State) (e : Bytes) : Option ReplyStatus :=
  if !classInRange e then some .range
  else if s.ready then
    match s.loadedClass (classIndex e) with
    | none => none
    | some c => if c.masking = (classEntryOf e).masking then none else some .state
  else none

/-- One class entry written. -/
def State.putClass (s : State) (e : Bytes) : State :=
  { s with tables.classes := tableSet none s.tables.classes (classIndex e) (some (classEntryOf e)) }

/-- The test of a TEMPLATE WRITE entry (R136, R138). -/
def templateTest (e : Bytes) : Option ReplyStatus := if templateInRange e then none else some .range

/-- One template written. -/
def State.putTemplate (s : State) (e : Bytes) : State :=
  { s with tables.templates := tableSet invalidTemplate s.tables.templates (templateIndex e) (templateOf e) }

/-- The live test of an ASSET WRITE entry, in the order of R139. -/
def State.liveAssetTest (s : State) (e : Bytes) : Option ReplyStatus :=
  if s.tables.assetCount ≤ assetIndex e then some .range
  else if (assetOf e).parent ≠ (s.asset (assetIndex e)).parent then some .state
  else
    match s.loadedClass (assetOf e).cls with
    | none => some .state
    | some c => if c.masking = (s.classOf (assetIndex e)).masking then none else some .state

/-- The test of an ASSET WRITE entry (R136, R139). -/
def State.assetTest (s : State) (e : Bytes) : Option ReplyStatus :=
  if !assetInRange e then some .range else if s.ready then s.liveAssetTest e else none

/-- One asset entry written, with its written mark (R130). -/
def State.putAsset (s : State) (e : Bytes) : State :=
  { s with tables.assets := tableSet unwrittenAsset s.tables.assets (assetIndex e) (assetOf e) }

/-- The test of a TRUNK WRITE entry (R136, R140). -/
def State.trunkTest (s : State) (e : Bytes) : Option ReplyStatus :=
  if trunkInRange (if s.ready then some s.tables.assetCount else none) e then none else some .range

/-- One trunk entry written. -/
def State.putTrunk (s : State) (e : Bytes) : State :=
  { s with tables.trunks := tableSet none s.tables.trunks (trunkSource e * 16 + trunkChannel e) (trunkOf e) }

/-! ### The clearing act (R182) -/

/-- The Source Table after the clearing act: a RESTART CLEAR from READY leaves used sources WAITING, and every other
entry is as at power-on (R129, R152). -/
def clearedSources (t : LoadedTables) (keepUse : Bool) : Table SourceEntry :=
  if keepUse then
    (List.range Config.sourceLimit).filterMap fun n =>
      if sourceUsed t n then some (n, { unusedSource with state := .waiting }) else none
  else []

/-- Every table empty and the asset count 0 (R126). -/
def emptyTables : LoadedTables := { trunks := [], assets := [], classes := [], templates := [], assetCount := 0 }

/-- The clearing act (R182), entering CLEARING; `full` empties the tables. -/
def State.clearingAct (s : State) (full : Bool) : State :=
  { s with
    fport.counters := zeroFieldCounters
    dport.counters := zeroDispatchCounters
    sources := { table := clearedSources s.tables (!full && s.ready), due := [] }
    tables := if full then emptyTables else s.tables
    correlator := { s.correlator with state := .clearing, records := [], independentCount := 0 }
    board := []
    sweep := { jobs := [], adoptDrops := 0 }
    scan := 0
    notices := { entries := [], evicted := 0, dropped := 0 }
    storm := { state := .calm, manualFloor := 0, buckets := [] }
    escalation := .disarmed
    agent.bootFailed := false
    agent.bootOrdinal := 0
    agent.overruns := 0 }

/-- A restart's first action: CLEARING and the clearing act, with how the restart will end (R182). -/
def State.beginRestart (s : State) (full : Bool) : State :=
  { s.clearingAct full with agent.long := some (.clearing (!full && s.ready)) }

/-- A restart's second action: READY with the resume time set, or LOADING (R182). -/
def State.endRestart (s : State) (toReady : Bool) : State :=
  let s := { s with agent.long := none }
  if toReady then ({ s with correlator.state := .ready }).resume else { s with correlator.state := .loading }

/-! ### Validation (R141 to R144) -/

/-- The lowest index below `n` that does not pass. -/
def lowestFailing (n : Nat) (passes : Nat → Bool) : Option Nat := (List.range n).find? fun i => !passes i

/-- Check 4: parent none, or lower than the asset's own index (R142). -/
def parentLower (t : LoadedTables) (i : Nat) : Bool :=
  match (tableGet unwrittenAsset t.assets i).parent with
  | none => true
  | some p => decide (p < i)

/-- Check 5: a valid trunk entry lies within the declared count (R142). -/
def trunkWithin (t : LoadedTables) (declared n : Nat) : Bool :=
  match tableGet none t.trunks n with
  | none => true
  | some r => decide (r.base + r.length ≤ declared)

/-- The five checks in order: the check that fails first and the index it names (R142). -/
def validate (t : LoadedTables) (declared : Nat) : Option (Nat × Nat) :=
  if Config.assetLimit < declared then some (1, declared)
  else
    ((lowestFailing declared fun i => (tableGet unwrittenAsset t.assets i).written).map fun i => (2, i)).orElse fun _ =>
    ((lowestFailing declared fun i => (tableGet none t.classes (tableGet unwrittenAsset t.assets i).cls).isSome).map
      fun i => (3, i)).orElse fun _ =>
    ((lowestFailing declared (parentLower t)).map fun i => (4, i)).orElse fun _ =>
    (lowestFailing Config.trunkLimit (trunkWithin t declared)).map fun i => (5, i)

/-- Validation ends with success (R143). -/
def State.enterService (s : State) (declared : Nat) : State :=
  (({ s with tables.assetCount := declared, correlator.state := .ready, agent.long := none }).resume).startSources

/-- Validation ends with the correlator back in LOADING (R144). -/
def State.backToLoading (s : State) : State := { s with correlator.state := .loading, agent.long := none }

/-- Validation ends (R142 to R144). -/
def State.endValidation (s : State) (declared : Nat) : State :=
  match validate s.tables declared with
  | none => (s.enterService declared).finish .done []
  | some (check, index) => s.backToLoading.finish .invalid (byte1 check ++ byte2 index)

end Sys2Proof.Machine
end

