-- ==== Sys2Proof/Machine/ExecEngines.lean ====
section
/-! DEFINITION. Meanings of the steps of the Silence Scanner and the Sweep Engine (R53, R87). -/

namespace Sys2Proof.Machine

/-- SCANNER_VISIT (R87), while the scanner runs and there is a record to visit (R86). -/
def execScannerVisit (s : State) : Host.Outcome State Fault Refusal :=
  .next (if s.scannerRuns ∧ 0 < s.tables.assetCount then s.scanOnce else s)

/-- SWEEP_STEP (R53), while a job is in the queue. -/
def execSweepStep (s : State) : Host.Outcome State Fault Refusal := .next (if s.inReset then s else s.sweepOnce)

end Sys2Proof.Machine
end

