-- ==== Sys2Proof/Machine/ExecLink.lean ====
section
/-! DEFINITION. Meanings of the commands of the field line: LINK_WATCHDOG_EXPIRY, SOURCE_SILENT, LINE_SIGNAL_LOSS and
LINE_SIGNAL_RETURN (R146, R149, R156). -/

namespace Sys2Proof.Machine

/-- LINK_WATCHDOG_EXPIRY (R149): the watchdog that the last advance found expired takes the link to QUALIFYING. The mark is
the advance's: a good frame, a departure from PASS or an entry to it, a CONFIG that changes N or K and a TIME SET lift it,
so that no watchdog expires but at an advance (R34; log entry 6). -/
def execLinkWatchdogExpiry (s : State) : Host.Outcome State Fault Refusal :=
  .next (if !s.inReset ∧ s.link.watchdogDue ∧ s.watchdogExpired then
      s.leavePass .qualifying
    else s)

/-- SOURCE_SILENT (R156): a source that the last advance found silent becomes SILENT, unless an event in between has
answered it: a report, whatever sets the resume time, and a CONFIG that changes K or the source multiple (R34; log entry
6). -/
def execSourceSilent (source : Nat) (s : State) : Host.Outcome State Fault Refusal :=
  .next (if !s.inReset ∧ source ∈ s.sources.due ∧ s.sourceExpired source then
      { s with sources.due := s.sources.due.erase source }.silenceSource source
    else s)

/-- The link's answer to a loss of line signal (R146). -/
def State.loseLine (s : State) : State :=
  match s.link.state with
  | .pass => s.leavePass .down
  | .qualifying => { s with link.state := .down, link.run := 0 }
  | .down => s

/-- LINE_SIGNAL_LOSS (R146). Before INIT ends only the indication follows FSIG (R145). -/
def execLineSignalLoss (s : State) : Host.Outcome State Fault Refusal :=
  let t := { s with fport.lineSignal := false }
  .next (if s.receiving then t.loseLine else t)

/-- The link's answer to a return of line signal (R146). -/
def State.regainLine (s : State) : State :=
  match s.link.state with
  | .down =>
    if 0 < s.agent.config.passThreshold then { s with link.state := .qualifying, link.run := 0 } else s.enterPass
  | .qualifying | .pass => s

/-- LINE_SIGNAL_RETURN (R146). Before INIT ends only the indication follows FSIG (R145). -/
def execLineSignalReturn (s : State) : Host.Outcome State Fault Refusal :=
  let t := { s with fport.lineSignal := true }
  .next (if s.receiving then t.regainLine else t)

end Sys2Proof.Machine
end

