-- ==== Sys2Proof/Machine/ExecPorts.lean ====
section
/-! DEFINITION. Meanings of the frame events of the two ports (R163 to R171). -/

namespace Sys2Proof.Machine

/-- F_PORT_FRAME_RECEIVED (R163), once the receivers are enabled. A frame whose first byte arrived before they were
is not received. -/
def execFPortFrameReceived (frame : Arrival) (s : State) : Host.Outcome State Fault Refusal :=
  .next (if s.receiving ∧ !frame.early then s.receiveField frame.bytes else s)

/-- D_PORT_FRAME_RECEIVED (R163), once the receivers are enabled. A frame whose first byte arrived before they were
is not received. -/
def execDPortFrameReceived (frame : Arrival) (s : State) : Host.Outcome State Fault Refusal :=
  .next (if s.receiving ∧ !frame.early then s.receiveDispatch frame.bytes else s)

/-- The F-port transmitter finishes a frame: it is counted, and the next head is taken (R167, R171). -/
def State.finishDown (s : State) : State :=
  { s with fport.counters.transmitted := countUp s.fport.counters.transmitted 1 }.takeDown

/-- F_PORT_FRAME_SENT (R167), while the transmitter is SENDING. -/
def execFPortFrameSent (s : State) : Host.Outcome State Fault Refusal :=
  .next (if !s.inReset ∧ s.fport.sending ≠ none then s.finishDown else s)

/-- D_PORT_FRAME_SENT (R168), while the transmitter is SENDING: the arbiter chooses. -/
def execDPortFrameSent (s : State) : Host.Outcome State Fault Refusal :=
  .next (if !s.inReset ∧ s.dport.sending ≠ none then s.choose else s)

end Sys2Proof.Machine
end

