-- ==== Sys2Proof/Machine/ExecPower.lean ====
section
/-! DEFINITION. Meanings of the commands of power, start-up and time: RESET_ASSERT, POWER_ON_RESET_RELEASE, INIT_END and
TIME_BASE_ADVANCE (R2, R29, R145, R185). -/

namespace Sys2Proof.Machine

/-- The mode that MODE1, MODE0 select: 0 PASS-THROUGH, 1 MONITOR, 2 and 3 CORRELATE (R185). -/
def strapMode (pins : Nat) : Mode := if pins = 0 then .passThrough else if pins = 1 then .monitor else .correlate

/-- RESET_ASSERT (R185): the part is held in reset, nothing is being sent, and any flash operation stops with the blocks
already erased or written as they are (R186). -/
def execResetAssert (s : State) : Host.Outcome State Fault Refusal :=
  .next { s with inReset := true, fport.sending := none, dport.sending := none, agent.long := none }

/-- POWER_ON_RESET_RELEASE (R185): the straps are latched and every block takes its power-on values; the flash and the
FSIG level are kept (R145, R186). -/
def execPowerOnResetRelease (node modePins : Nat) (boot : Bool) (s : State) : Host.Outcome State Fault Refusal :=
  .next (powerOnState (node % 64) (strapMode modePins) boot s.fport.lineSignal s.flash s.pending)

/-- The agent's state when INIT ends: REPLAYING from the start of the flash with boot choice 1, IDLE with 0 (R173). -/
def State.agentStart (s : State) : AgentState := if s.straps.boot then .replaying 0 0 none else .idle

/-- The link state set when INIT ends (R145). -/
def State.linkStart (s : State) : LinkState := if s.fport.lineSignal then .qualifying else .down

/-- The end of INIT: the record memory is clear, the receivers are enabled, the link state is set, LOADING is entered, and
initialisation ends unless a replay follows (R2, R124, R145, R185). -/
def State.endInit (s : State) : State :=
  { s with
    initialising := s.straps.boot
    link := { s.link with state := s.linkStart, run := 0 }
    correlator := { s.correlator with state := .loading, records := [], independentCount := 0 }
    board := []
    sweep := { s.sweep with jobs := [] }
    agent.state := s.agentStart }.takeCommand

/-- INIT_END (R2, R185), while the correlator state is INIT. -/
def execInitEnd (s : State) : Host.Outcome State Fault Refusal :=
  .next (if !s.inReset ∧ s.correlator.state = .init then s.endInit else s)

/-- TIME_BASE_ADVANCE (R29), out of reset. -/
def execTimeBaseAdvance (s : State) : Host.Outcome State Fault Refusal := .next (if s.inReset then s else s.advance)

end Sys2Proof.Machine
end

