-- ==== Sys2Proof/Machine/ExecAgent.lean ====
section
/-! DEFINITION. Meanings of the agent's own commands: MGMT_BAD_VECTOR, STATUS, CONFIG, TIME_SET, SET_MODE and the two READ
COUNTERS rows (R174 to R181). A `…Body` is the command on a payload, live or replayed, in the check order of R175. -/

namespace Sys2Proof.Machine

/-! ### MGMT_BAD_VECTOR -/

/-- An unknown vector is refused BAD_VECTOR, a payload too short for vector and tag BAD_LENGTH (R174, R175). -/
def badVectorBody (p : Bytes) (s : State) : Ending := if p.length < 2 then refuse s .badLength else refuse s .badVector

/-- MGMT_BAD_VECTOR (R175). -/
def execMgmtBadVector (s : State) : Host.Outcome State Fault Refusal := .next (s.runRow .badVector badVectorBody)

/-! ### STATUS -/

/-- The context of the unit while it is RAISED or HELD (R116). -/
def Escalation.context : Escalation → Option EscalationContext
  | .raised c | .held c => some c
  | .disarmed | .armed => none

/-- A presence byte and the seven fields of the context, zeros when absent (R174, R177; log entry 11). -/
def contextBytes : Option EscalationContext → Bytes
  | none => flagByte false ++ List.replicate 14 0#8
  | some c =>
    flagByte true ++ byte2 c.asset ++ byte3 c.address.toNat ++ byte1 c.cls ++ byte1 (severityCode c.severity)
      ++ byte1 c.priority ++ byte4 c.qualifiedAt ++ byte2 c.faultCount

/-- The results of STATUS, in the order of R177. -/
def State.statusResults (s : State) : Bytes :=
  byte1 (correlatorCode s.correlator.state) ++ byte1 (modeCode s.agent.mode) ++ byte1 (linkCode s.link.state)
    ++ byte1 (stormCode s.storm.state) ++ byte1 s.floor ++ byte1 (escalationCode s.escalation)
    ++ contextBytes s.escalation.context ++ byte2 s.board.length ++ byte2 s.correlator.independentCount
    ++ byte2 s.notices.entries.length ++ byte1 s.sweep.jobs.length ++ byte4 s.agent.time
    ++ flagByte s.agent.bootFailed ++ byte3 s.agent.bootOrdinal ++ byte2 s.notices.evicted ++ byte2 s.notices.dropped

/-- STATUS changes nothing and replies with its results (R177). -/
def statusBody (p : Bytes) (s : State) : Ending :=
  if argumentLength p ≠ 0 then refuse s .badLength else .reply s .done s.statusResults

/-- STATUS (R177). -/
def execStatus (s : State) : Host.Outcome State Fault Refusal := .next (s.runRow .status statusBody)

/-! ### CONFIG -/

/-- The configuration set is replaced whole (R178). N and K act from the next watchdog test, K and the source multiple from
the next source deadline test (R151, R156), so a change of one lifts what the last advance marked by the old value, and a
field written with its present value changes nothing (log entry 6). -/
def State.replaceConfig (s : State) (c : ConfigSet) : State :=
  let old := s.agent.config
  { s with
    agent.config := c
    link.watchdogDue :=
      s.link.watchdogDue && decide (old.passThreshold = c.passThreshold ∧ old.keepalive = c.keepalive)
    sources.due :=
      if old.keepalive = c.keepalive ∧ old.sourceMultiple = c.sourceMultiple then s.sources.due else [] }

/-- A change of N finds a QUALIFYING link whose run reaches it, and the link passes; N written with its present value
changes nothing (R150, R151, R178). -/
def State.followThreshold (s : State) (old : Nat) : State :=
  if s.agent.config.passThreshold = old then s else s.passIfRun

/-- The configuration set is written, and its changes act: N on a QUALIFYING link (R151), and a fallen floor presents the
queue's head (R108, R178). -/
def State.configure (s : State) (c : ConfigSet) : State :=
  ((s.replaceConfig c).followThreshold s.agent.config.passThreshold).offerDispatch

/-- CONFIG on a payload (R178). -/
def configBody (p : Bytes) (s : State) : Ending :=
  if argumentLength p ≠ 10 then refuse s .badLength
  else if !configInRange (arguments p) then refuse s .range
  else done (s.configure (configOf (arguments p)))

/-- CONFIG (R178). -/
def execConfig (s : State) : Host.Outcome State Fault Refusal := .next (s.runRow .config configBody)

/-! ### TIME_SET and SET_MODE -/

/-- The time base and the resume time take a value (R179). No deadline runs out at a TIME SET: what the last advance marked
lapses, and the next advance tests against the new time base (R34; log entry 6). -/
def State.setTime (s : State) (t : Nat) : State :=
  ({ s with agent.time := t, link.watchdogDue := false, sources.due := [] }).resume

/-- TIME SET on a payload (R179). -/
def timeSetBody (p : Bytes) (s : State) : Ending :=
  if argumentLength p ≠ 4 then refuse s .badLength else done (s.setTime (numAt (arguments p) 0 4))

/-- TIME_SET (R179). -/
def execTimeSet (s : State) : Host.Outcome State Fault Refusal := .next (s.runRow .timeSet timeSetBody)

/-- The mode is replaced; leaving PASS-THROUGH sets the resume time (R93, R180). -/
def State.changeMode (s : State) (m : Mode) : State :=
  let t := { s with agent.mode := m }
  if s.agent.mode = .passThrough ∧ m ≠ .passThrough then t.resume else t

/-- SET MODE on a payload (R180). -/
def setModeBody (p : Bytes) (s : State) : Ending :=
  if argumentLength p ≠ 1 then refuse s .badLength
  else
    match modeOf (byteAt (arguments p) 0) with
    | none => refuse s .range
    | some m => done (s.changeMode m)

/-- SET_MODE (R180). -/
def execSetMode (s : State) : Host.Outcome State Fault Refusal := .next (s.runRow .setMode setModeBody)

/-! ### READ_COUNTERS_PORT and READ_COUNTERS_SOURCE -/

/-- The 19 counters of group PORT, in the order of R171 and R181. -/
def State.portSnapshot (s : State) : Bytes :=
  let f := s.fport.counters
  let d := s.dport.counters
  ([f.good, f.checkFailures, f.malformed, f.wrongDirection, f.uncorrelated, f.downOverflows, f.transmitted,
    d.good, d.checkFailures, d.malformed, d.wrongDirection, d.upOverflows, d.noticesSent, d.repliesSent, d.forwardedSent,
    s.notices.evicted, s.notices.dropped, s.sweep.adoptDrops, s.agent.overruns].map byte2).flatten

/-- The counters of group PORT at zero (R181). -/
def State.zeroPortGroup (s : State) : State :=
  { s with
    fport.counters := zeroFieldCounters
    dport.counters := zeroDispatchCounters
    notices.evicted := 0
    notices.dropped := 0
    sweep.adoptDrops := 0
    agent.overruns := 0 }

/-- READ COUNTERS with group PORT on a payload; the source is not tested (R176, R181). -/
def readCountersPortBody (p : Bytes) (s : State) : Ending :=
  let a := arguments p
  if argumentLength p ≠ 3 then refuse s .badLength
  else if byteAt a 0 ≠ 0 ∨ !isFlag (byteAt a 2) then refuse s .range
  else .reply (if byteAt a 2 = 1 then s.zeroPortGroup else s) .done s.portSnapshot

/-- READ_COUNTERS_PORT (R181). -/
def execReadCountersPort (s : State) : Host.Outcome State Fault Refusal :=
  .next (s.runRow .readCountersPort readCountersPortBody)

/-- A source's state and its six counters (R181). -/
def sourceSnapshot (e : SourceEntry) : Bytes :=
  byte1 (sourceCode e.state)
    ++ ([e.framesAccepted, e.duplicates, e.lostFrames, e.unmappedItems, e.malformedItems, e.testItems].map byte2).flatten

/-- A source's six counters at zero; state, sequences and times as they are (R152, R181). -/
def SourceEntry.zeroCounters (e : SourceEntry) : SourceEntry :=
  { e with framesAccepted := 0, duplicates := 0, lostFrames := 0, unmappedItems := 0, malformedItems := 0, testItems := 0 }

/-- READ COUNTERS with group SOURCE on a payload (R181). -/
def readCountersSourceBody (p : Bytes) (s : State) : Ending :=
  let a := arguments p
  let n := byteAt a 1
  if argumentLength p ≠ 3 then refuse s .badLength
  else if 63 < n ∨ !isFlag (byteAt a 2) then refuse s .range
  else .reply (if byteAt a 2 = 1 then s.modSource n SourceEntry.zeroCounters else s) .done (sourceSnapshot (s.source n))

/-- READ_COUNTERS_SOURCE (R181). -/
def execReadCountersSource (s : State) : Host.Outcome State Fault Refusal :=
  .next (s.runRow .readCountersSource readCountersSourceBody)

end Sys2Proof.Machine
end

