-- ==== Sys2Proof/Machine/ExecFlash.lean ====
section
/-! DEFINITION. Meanings of the flash commands: FLASH_ERASE, FLASH_ERASE_BLOCK, FLASH_WRITE and FLASH_WRITE_END (R186). -/

namespace Sys2Proof.Machine

/-- The flash byte at an address (R186). -/
def State.flashByte (s : State) (i : Nat) : Byte := tableGet erasedByte s.flash i

/-- A run of `n` flash bytes from an address. -/
def State.flashRun (s : State) (i n : Nat) : Bytes := (List.range n).map fun k => s.flashByte (i + k)

/-- Every byte of the block at an offset is erased (R186). -/
def State.blockBlank (s : State) (offset : Nat) : Bool :=
  (List.range Config.flashBlock).all fun k => decide (s.flashByte (offset + k) = erasedByte)

/-- FLASH ERASE on a payload: the erase begins at block 0; refused STATE from the replay (R176, R186). -/
def flashEraseBody (p : Bytes) (s : State) : Ending :=
  if argumentLength p ≠ 0 then refuse s .badLength
  else if s.inReplay then refuse s .state
  else .goesOn { s with agent.long := some (.erasing 0) }

/-- FLASH_ERASE (R186). -/
def execFlashErase (s : State) : Host.Outcome State Fault Refusal := .next (s.runRow .flashErase flashEraseBody)

/-- One block is erased in one action; after the last the command replies DONE (R186). -/
def State.eraseBlock (s : State) (block : Nat) : State :=
  let s := { s with flash := tableErase s.flash (block * Config.flashBlock) Config.flashBlock }
  if block + 1 < Config.flashBlocks then { s with agent.long := some (.erasing (block + 1)) }
  else { s with agent.long := none }.finish .done []

/-- The erase of the block in progress completes. -/
def State.eraseStep (s : State) : State :=
  match s.agent.long with
  | some (.erasing block) => s.eraseBlock block
  | some (.clearing _) | some (.validating _) | some (.writing _ _) | none => s

/-- FLASH_ERASE_BLOCK (R186), while an erase is in progress. -/
def execFlashEraseBlock (s : State) : Host.Outcome State Fault Refusal := .next (if s.inReset then s else s.eraseStep)

/-- FLASH WRITE on a payload: offset in range, block blank, then the write takes time (R176, R186). -/
def flashWriteBody (p : Bytes) (s : State) : Ending :=
  let a := arguments p
  let offset := numAt a 0 4
  if argumentLength p ≠ 132 then refuse s .badLength
  else if s.inReplay then refuse s .state
  else if offset % Config.flashBlock ≠ 0 ∨ Config.flashBytes ≤ offset then refuse s .range
  else if !s.blockBlank offset then refuse s .state
  else .goesOn { s with agent.long := some (.writing (offset / Config.flashBlock) (a.drop 4)) }

/-- FLASH_WRITE (R186). -/
def execFlashWrite (s : State) : Host.Outcome State Fault Refusal := .next (s.runRow .flashWrite flashWriteBody)

/-- The block is written in one action, and the command replies DONE (R186). -/
def State.writeDone (s : State) : State :=
  match s.agent.long with
  | some (.writing block data) =>
    { s with
      flash := tableSetAll erasedByte s.flash (block * Config.flashBlock) data
      agent.long := none }.finish .done []
  | some (.clearing _) | some (.validating _) | some (.erasing _) | none => s

/-- FLASH_WRITE_END (R186), while a write is in progress. -/
def execFlashWriteEnd (s : State) : Host.Outcome State Fault Refusal := .next (if s.inReset then s else s.writeDone)

end Sys2Proof.Machine
end

