-- ==== Sys2Proof/Machine/ExecRecords.lean ====
section
/-! DEFINITION. Meanings of the record and list commands: QUERY_ASSET, QUERY_LIST, ACK_FAULT, ACK_RESTORED, SET_SERVICE_OUT
and SET_SERVICE_IN (R22, R24, R28, R76 to R84, R184). -/

namespace Sys2Proof.Machine

/-- The asset that the first two argument bytes name. -/
def assetArgument (p : Bytes) : Nat := numAt (arguments p) 0 2

/-- An asset argument lies below the asset count (R176). -/
def State.isAsset (s : State) (a : Nat) : Bool := decide (a < s.tables.assetCount)

/-! ### QUERY_ASSET -/

/-- The Asset Table results of QUERY ASSET: class, parent, field address and escalate inhibit (R184). -/
def assetResults (e : AssetEntry) : Bytes :=
  byte1 e.cls ++ indexBytes e.parent ++ byte3 e.address.toNat ++ flagByte e.inhibit

/-- The record results of QUERY ASSET: every field of R1 in its order (R28, R174, R184). -/
def recordResults (r : FaultRecord) : Bytes :=
  byte1 (conditionCode r.condition) ++ byte1 (severityCode r.severity) ++ byte1 r.run ++ indexBytes r.cause
    ++ byte2 r.dependents ++ byte1 (latchCode r.latch) ++ byte1 (lastStatusCode r.lastStatus) ++ byte1 r.lastDetail
    ++ presentBytes byte2 r.lastValue ++ presentBytes byte4 r.lastHeard ++ presentBytes byte1 r.lastSource
    ++ presentBytes byte4 r.qualifiedAt ++ presentBytes byte4 r.joinedAt ++ byte2 r.flapScore ++ byte4 r.flapStamp
    ++ flagByte r.flapping ++ presentBytes byte4 r.testUntil

/-- QUERY ASSET on a payload: the fields are read first, then a HELD latch is cleared when the flag asks (R77). -/
def queryAssetBody (p : Bytes) (s : State) : Ending :=
  let a := assetArgument p
  let flag := byteAt (arguments p) 2
  if argumentLength p ≠ 3 then refuse s .badLength
  else if !s.ready then refuse s .state
  else if !s.isAsset a ∨ !isFlag flag then refuse s .range
  else
    .reply (if flag = 1 ∧ (s.record a).latch = .held then s.clearLatch a else s) .done
      (assetResults (s.asset a) ++ recordResults (s.record a))

/-- QUERY_ASSET (R77). -/
def execQueryAsset (s : State) : Host.Outcome State Fault Refusal := .next (s.runRow .queryAsset queryAssetBody)

/-! ### QUERY_LIST -/

/-- The entries after `c` on a list; none when `c` is not on it (R81). -/
def entriesAfter : List Nat → Nat → Option (List Nat)
  | [], _ => none
  | x :: rest, c => if x = c then some rest else entriesAfter rest c

/-- The entries a query considers: all from HEAD, or those after the cursor asset (R81). -/
def State.considered (s : State) (cursor : Option Nat) : Option (List Nat) :=
  match cursor with
  | none => some s.board
  | some c => entriesAfter s.board c

/-- An entry passes a filter (R82). -/
def State.passesFilter (s : State) (f : ListFilter) (a : Nat) : Bool :=
  match f with
  | .all => true
  | .independent => (s.record a).independent
  | .zone z => decide ((s.zoneLookup (s.asset a).address).1 = z)

/-- The eight fields of an entry returned (R83). -/
def State.entryResults (s : State) (a : Nat) : Bytes :=
  let r := s.record a
  byte2 a ++ byte1 (conditionCode r.condition) ++ byte1 (severityCode r.severity) ++ indexBytes r.cause
    ++ byte1 (latchCode r.latch) ++ byte4 (r.qualifiedAt.getD 0) ++ byte4 (r.joinedAt.getD 0) ++ byte2 r.dependents

/-- The results of a query over the entries it considers: the number returned, end-of-list, and the entries (R82 to R84). -/
def State.listResults (s : State) (f : ListFilter) (count : Nat) (considered : List Nat) : Bytes :=
  let passing := considered.filter fun a => s.passesFilter f a
  let returned := passing.take count
  byte1 returned.length ++ flagByte (decide (passing.length ≤ count)) ++ (returned.map s.entryResults).flatten

/-- A cursor is HEAD or an asset (R176). -/
def State.cursorInRange (s : State) (cursor : Option Nat) : Bool :=
  match cursor with
  | none => true
  | some c => s.isAsset c

/-- QUERY LIST on a payload (R80 to R84). -/
def queryListBody (p : Bytes) (s : State) : Ending :=
  let a := arguments p
  let cursor := optionalIndex (numAt a 0 2)
  let count := byteAt a 2
  if argumentLength p ≠ 5 then refuse s .badLength
  else if !s.ready then refuse s .state
  else if !s.cursorInRange cursor ∨ count < 1 ∨ 13 < count then refuse s .range
  else
    match listFilterOf (byteAt a 3) (byteAt a 4) with
    | none => refuse s .range
    | some f =>
      match s.considered cursor with
      | none => .reply s .cursorLost (byte1 0 ++ flagByte false)
      | some es => .reply s .done (s.listResults f count es)

/-- QUERY_LIST (R80). -/
def execQueryList (s : State) : Host.Outcome State Fault Refusal := .next (s.runRow .queryList queryListBody)

/-! ### ACK_FAULT and ACK_RESTORED -/

/-- ACK FAULT on a payload (R76). -/
def ackFaultBody (p : Bytes) (s : State) : Ending :=
  let a := assetArgument p
  if argumentLength p ≠ 2 then refuse s .badLength
  else if !s.ready then refuse s .state
  else if !s.isAsset a then refuse s .range
  else if (s.record a).latch = .clear then refuse s .state
  else done (s.clearLatch a)

/-- ACK_FAULT (R76). -/
def execAckFault (s : State) : Host.Outcome State Fault Refusal := .next (s.runRow .ackFault ackFaultBody)

/-- ACK RESTORED on a payload: the ACK job is merged or queued, or refused BUSY (R78). -/
def ackRestoredBody (p : Bytes) (s : State) : Ending :=
  let a := arguments p
  if argumentLength p ≠ 2 then refuse s .badLength
  else if !s.ready then refuse s .state
  else
    match ackFilterOf (byteAt a 0) (byteAt a 1) with
    | none => refuse s .range
    | some zone => if !s.hasAck ∧ s.sweepFull then refuse s .busy else done (s.queueAck zone)

/-- ACK_RESTORED (R78). -/
def execAckRestored (s : State) : Host.Outcome State Fault Refusal := .next (s.runRow .ackRestored ackRestoredBody)

/-! ### SET_SERVICE_OUT and SET_SERVICE_IN -/

/-- Steps 1 and 2 of SET SERVICE OUT: a suppressed record loses its cause, an independent one leaves the count (R22). -/
def State.leaveAttribution (s : State) (a : Nat) : State :=
  if (s.record a).independent then s.uncountIndependent else s.unattribute a

/-- SET SERVICE OUT of a record that is in service, in the order of R22. -/
def State.takeOut (s : State) (a : Nat) : State :=
  let s := s.leaveAttribution a
  let s := s.modRecord a fun r => { r with condition := .outOfService, run := 0 }
  ((s.endAdopt a).cancelReleaseIfMasking a).leaveUnlessListed a

/-- SET SERVICE OUT of asset `a`: nothing changes for a record already OUT_OF_SERVICE (R22). -/
def State.serviceOut (s : State) (a : Nat) : State := if (s.record a).condition = .outOfService then s else s.takeOut a

/-- SET SERVICE IN of an OUT_OF_SERVICE record that is not refused, in the order of R24. -/
def State.serviceIn (s : State) (a : Nat) : State :=
  let s := if 0 < (s.record a).dependents then s.queueRelease a else s
  (s.modRecord a fun r => { r with condition := .unknown, run := 0, severity := .none }).leaveUnlessListed a

/-- SET SERVICE on a payload, with the checks of R175: the direction is a coded choice (R176, R184). -/
def setServiceBody (p : Bytes) (s : State) : Ending :=
  let a := assetArgument p
  let direction := byteAt (arguments p) 2
  if argumentLength p ≠ 3 then refuse s .badLength
  else if !s.ready then refuse s .state
  else if !s.isAsset a ∨ !isFlag direction then refuse s .range
  else if direction = 0 then done (s.serviceOut a)
  else if (s.record a).condition ≠ .outOfService then refuse s .state
  else if 0 < (s.record a).dependents ∧ s.releaseRefused a then refuse s .busy
  else done (s.serviceIn a)

/-- SET_SERVICE_OUT (R22). -/
def execSetServiceOut (s : State) : Host.Outcome State Fault Refusal := .next (s.runRow .setServiceOut setServiceBody)

/-- SET_SERVICE_IN (R24). -/
def execSetServiceIn (s : State) : Host.Outcome State Fault Refusal := .next (s.runRow .setServiceIn setServiceBody)

end Sys2Proof.Machine
end

