-- ==== Sys2Proof/Machine/ExecRestart.lean ====
section
/-! DEFINITION. Meanings of restarts and loading: RESTART_CLEAR, RESTART_FULL, CLEARING_END, LOAD_BEGIN, LOAD_END and
VALIDATION_END (R141 to R144, R182, R183). -/

namespace Sys2Proof.Machine

/-- RESTART on a payload; the level is a coded choice (R176, R182). -/
def restartBody (p : Bytes) (s : State) : Ending :=
  if argumentLength p ≠ 1 then refuse s .badLength
  else if !isFlag (byteAt (arguments p) 0) then refuse s .range
  else .goesOn (s.beginRestart (decide (byteAt (arguments p) 0 = 1)))

/-- RESTART_CLEAR (R182). -/
def execRestartClear (s : State) : Host.Outcome State Fault Refusal := .next (s.runRow .restartClear restartBody)

/-- RESTART_FULL (R182). -/
def execRestartFull (s : State) : Host.Outcome State Fault Refusal := .next (s.runRow .restartFull restartBody)

/-- The end of CLEARING, with the reply DONE (R182, R183). -/
def State.clearingDone (s : State) : State :=
  match s.agent.long with
  | some (.clearing toReady) => (s.endRestart toReady).finish .done []
  | some (.validating _) | some (.erasing _) | some (.writing _ _) | none => s

/-- CLEARING_END (R182), while a restart or LOAD BEGIN is in CLEARING. -/
def execClearingEnd (s : State) : Host.Outcome State Fault Refusal := .next (if s.inReset then s else s.clearingDone)

/-- LOAD BEGIN on a payload: as RESTART FULL (R183). -/
def loadBeginBody (p : Bytes) (s : State) : Ending :=
  if argumentLength p ≠ 0 then refuse s .badLength else .goesOn (s.beginRestart true)

/-- LOAD_BEGIN (R183). -/
def execLoadBegin (s : State) : Host.Outcome State Fault Refusal := .next (s.runRow .loadBegin loadBeginBody)

/-- Validation of a declared count begins (R141). -/
def State.beginValidation (s : State) (declared : Nat) : State :=
  { s with correlator.state := .validating, agent.long := some (.validating declared) }

/-- LOAD END on a payload; the declared count is judged by validation (R141, R183). -/
def loadEndBody (p : Bytes) (s : State) : Ending :=
  if argumentLength p ≠ 2 then refuse s .badLength
  else if s.correlator.state ≠ .loading then refuse s .state
  else .goesOn (s.beginValidation (numAt (arguments p) 0 2))

/-- LOAD_END (R141). -/
def execLoadEnd (s : State) : Host.Outcome State Fault Refusal := .next (s.runRow .loadEnd loadEndBody)

/-- The end of validation, with its reply (R142 to R144). -/
def State.validationDone (s : State) : State :=
  match s.agent.long with
  | some (.validating declared) => s.endValidation declared
  | some (.clearing _) | some (.erasing _) | some (.writing _ _) | none => s

/-- VALIDATION_END (R142), while a LOAD END is validating. -/
def execValidationEnd (s : State) : Host.Outcome State Fault Refusal := .next (if s.inReset then s else s.validationDone)

end Sys2Proof.Machine
end

