-- ==== Sys2Proof/Machine/ExecStorm.lean ====
section
/-! DEFINITION. Meanings of the storm and escalation commands: STORM_ON, STORM_OFF, ESC_ARM and ESC_ACK (R113, R114, R120,
R121). -/

namespace Sys2Proof.Machine

/-- STORM ON with floor `f`: STORM_MANUAL, from every state; a fallen floor presents the queue's head (R108, R113). -/
def State.startStorm (s : State) (f : Nat) : State :=
  { s with storm.state := .manual, storm.manualFloor := f }.offerDispatch

/-- STORM OFF: from a storm the state becomes CALM, the queue's head is presented at floor 0, and the Escalation Unit is
told that the storm has ended; from CALM nothing changes (R114; log entry 12). -/
def State.endStorm (s : State) : State :=
  if s.storm.state = .calm then s else (({ s with storm.state := .calm }).offerDispatch).stormEnded

/-- STORM on a payload; the floor of STORM OFF is not tested (R113, R114, R176). -/
def stormBody (p : Bytes) (s : State) : Ending :=
  let action := byteAt (arguments p) 0
  let f := byteAt (arguments p) 1
  if argumentLength p ≠ 2 then refuse s .badLength
  else if !isFlag action ∨ (action = 1 ∧ 31 < f) then refuse s .range
  else if action = 1 then done (s.startStorm f)
  else done s.endStorm

/-- STORM_ON (R113). -/
def execStormOn (s : State) : Host.Outcome State Fault Refusal := .next (s.runRow .stormOn stormBody)

/-- STORM_OFF (R114). -/
def execStormOff (s : State) : Host.Outcome State Fault Refusal := .next (s.runRow .stormOff stormBody)

/-- ESC ARM on a payload (R120). -/
def escArmBody (p : Bytes) (s : State) : Ending :=
  if argumentLength p ≠ 0 then refuse s .badLength
  else
    match s.escalation with
    | .disarmed | .armed => done { s with escalation := .armed }
    | .raised _ | .held _ => refuse s .state

/-- ESC_ARM (R120). -/
def execEscArm (s : State) : Host.Outcome State Fault Refusal := .next (s.runRow .escArm escArmBody)

/-- ESC ACK on a payload: the context is discarded, and the unit rearmed or disarmed (R121). -/
def escAckBody (p : Bytes) (s : State) : Ending :=
  let rearm := byteAt (arguments p) 0
  if argumentLength p ≠ 1 then refuse s .badLength
  else
    match s.escalation with
    | .disarmed | .armed => refuse s .state
    | .raised _ | .held _ =>
      if !isFlag rearm then refuse s .range
      else done { s with escalation := if rearm = 1 then .armed else .disarmed }

/-- ESC_ACK (R121). -/
def execEscAck (s : State) : Host.Outcome State Fault Refusal := .next (s.runRow .escAck escAckBody)

end Sys2Proof.Machine
end

