-- ==== Sys2Proof/Machine/ExecTables.lean ====
section
/-! DEFINITION. Meanings of the four table writes (R135 to R140). -/

namespace Sys2Proof.Machine

/-- CLASS WRITE on a payload (R137). -/
def classWriteBody (p : Bytes) (s : State) : Ending :=
  let a := arguments p
  if argumentLength p ≠ 21 then refuse s .badLength
  else if !s.tablesOpen then refuse s .state
  else tableWrite s [a] s.classTest ((s.putClass a).adjustRuns s)

/-- CLASS_WRITE (R137). -/
def execClassWrite (s : State) : Host.Outcome State Fault Refusal := .next (s.runRow .classWrite classWriteBody)

/-- TEMPLATE WRITE on a payload (R138). -/
def templateWriteBody (p : Bytes) (s : State) : Ending :=
  let a := arguments p
  if !entryLengthOk 10 16 a then refuse s .badLength
  else if !s.tablesOpen then refuse s .state
  else tableWrite s (entriesOf 10 a) templateTest ((entriesOf 10 a).foldl State.putTemplate s)

/-- TEMPLATE_WRITE (R138). -/
def execTemplateWrite (s : State) : Host.Outcome State Fault Refusal := .next (s.runRow .templateWrite templateWriteBody)

/-- ASSET WRITE on a payload (R139). -/
def assetWriteBody (p : Bytes) (s : State) : Ending :=
  let a := arguments p
  if !entryLengthOk 8 29 a then refuse s .badLength
  else if !s.tablesOpen then refuse s .state
  else tableWrite s (entriesOf 8 a) s.assetTest (((entriesOf 8 a).foldl State.putAsset s).adjustRuns s)

/-- ASSET_WRITE (R139). -/
def execAssetWrite (s : State) : Host.Outcome State Fault Refusal := .next (s.runRow .assetWrite assetWriteBody)

/-- TRUNK WRITE on a payload (R140). -/
def trunkWriteBody (p : Bytes) (s : State) : Ending :=
  let a := arguments p
  if !entryLengthOk 7 16 a then refuse s .badLength
  else if !s.tablesOpen then refuse s .state
  else tableWrite s (entriesOf 7 a) s.trunkTest (((entriesOf 7 a).foldl State.putTrunk s).followUse s)

/-- TRUNK_WRITE (R140). -/
def execTrunkWrite (s : State) : Host.Outcome State Fault Refusal := .next (s.runRow .trunkWrite trunkWriteBody)

end Sys2Proof.Machine
end

