-- ==== Sys2Proof/Machine/ExecReplay.lean ====
section
/-! DEFINITION. Meaning of BOOT_REPLAY_FRAME: the boot replay reads stored frames and executes them as commands (R187). -/

namespace Sys2Proof.Machine

/-- A payload executed as a command, by its row (R176). -/
def runCommand (p : Bytes) (s : State) : Ending :=
  match commandRow p with
  | .badVector => badVectorBody p s
  | .status => statusBody p s
  | .config => configBody p s
  | .timeSet => timeSetBody p s
  | .setMode => setModeBody p s
  | .restartClear => restartBody p s
  | .restartFull => restartBody p s
  | .readCountersPort => readCountersPortBody p s
  | .readCountersSource => readCountersSourceBody p s
  | .loadBegin => loadBeginBody p s
  | .loadEnd => loadEndBody p s
  | .classWrite => classWriteBody p s
  | .templateWrite => templateWriteBody p s
  | .assetWrite => assetWriteBody p s
  | .trunkWrite => trunkWriteBody p s
  | .queryAsset => queryAssetBody p s
  | .queryList => queryListBody p s
  | .ackFault => ackFaultBody p s
  | .ackRestored => ackRestoredBody p s
  | .setServiceOut => setServiceBody p s
  | .setServiceIn => setServiceBody p s
  | .stormOn => stormBody p s
  | .stormOff => stormBody p s
  | .escArm => escArmBody p s
  | .escAck => escAckBody p s
  | .flashErase => flashEraseBody p s
  | .flashWrite => flashWriteBody p s

/-- A stored command is executed: the next frame start is after it, and its reply is discarded (R187). -/
def State.replayCommand (s : State) (offset executed : Nat) (frame : Bytes) : State :=
  (runCommand (framePayload frame)
    { s with agent.state := .replaying (offset + frame.length) executed (some (framePayload frame)) }).settle

/-- The replay ends at its end marker: it succeeds in READY and fails otherwise (R187). -/
def State.endMarker (s : State) (executed : Nat) : State := if s.ready then s.endReplay else s.failReplay (executed + 1)

/-- One frame start of the replay: no room, end marker, bad frame, wrong kind, or command, the first that applies (R187). -/
def State.replayFrame (s : State) (offset executed : Nat) : State :=
  let length := (s.flashByte (offset + 4)).toNat
  let frame := s.flashRun offset (7 + length)
  if Config.flashBytes < offset + 7 ∨ Config.flashBytes < offset + 7 + length then s.failReplay (executed + 1)
  else if s.flashByte offset = 0xFF#8 then s.endMarker executed
  else if Config.payloadLimit < length ∨ receivedSum frame ≠ 0xFFFF#16 then s.failReplay (executed + 1)
  else if frameKind frame ≠ kindMgmt then s.failReplay (executed + 1)
  else s.replayCommand offset executed frame

/-- The replay takes up the next frame start, when no stored command is in execution. -/
def State.replayStep (s : State) : State :=
  match s.agent.state with
  | .replaying offset executed none => s.replayFrame offset executed
  | .held | .idle | .executing _ | .replyWaiting | .replaying _ _ (some _) => s

/-- BOOT_REPLAY_FRAME (R187), while the agent is REPLAYING. -/
def execBootReplayFrame (s : State) : Host.Outcome State Fault Refusal := .next (if s.inReset then s else s.replayStep)

end Sys2Proof.Machine
end

