-- ==== Sys2Proof/Machine/Dispatch.lean ====
section
/-! DEFINITION. One arm per command of the table, each one direct call of its meaning. -/

namespace Sys2Proof.Machine

/-- The effect of a command on everything but the queue of waiting commands. -/
def exec (i : Instr) (s : State) : Host.Outcome State Fault Refusal :=
  match i with
  | .resetAssert => Sys2Proof.Machine.execResetAssert s
  | .powerOnResetRelease node modePins boot => Sys2Proof.Machine.execPowerOnResetRelease node modePins boot s
  | .initEnd => Sys2Proof.Machine.execInitEnd s
  | .timeBaseAdvance => Sys2Proof.Machine.execTimeBaseAdvance s
  | .linkWatchdogExpiry => Sys2Proof.Machine.execLinkWatchdogExpiry s
  | .sourceSilent source => Sys2Proof.Machine.execSourceSilent source s
  | .lineSignalLoss => Sys2Proof.Machine.execLineSignalLoss s
  | .lineSignalReturn => Sys2Proof.Machine.execLineSignalReturn s
  | .fPortFrameReceived frame => Sys2Proof.Machine.execFPortFrameReceived frame s
  | .dPortFrameReceived frame => Sys2Proof.Machine.execDPortFrameReceived frame s
  | .fPortFrameSent => Sys2Proof.Machine.execFPortFrameSent s
  | .dPortFrameSent => Sys2Proof.Machine.execDPortFrameSent s
  | .scannerVisit => Sys2Proof.Machine.execScannerVisit s
  | .sweepStep => Sys2Proof.Machine.execSweepStep s
  | .bootReplayFrame => Sys2Proof.Machine.execBootReplayFrame s
  | .mgmtBadVector => Sys2Proof.Machine.execMgmtBadVector s
  | .status => Sys2Proof.Machine.execStatus s
  | .config => Sys2Proof.Machine.execConfig s
  | .timeSet => Sys2Proof.Machine.execTimeSet s
  | .setMode => Sys2Proof.Machine.execSetMode s
  | .restartClear => Sys2Proof.Machine.execRestartClear s
  | .restartFull => Sys2Proof.Machine.execRestartFull s
  | .clearingEnd => Sys2Proof.Machine.execClearingEnd s
  | .readCountersPort => Sys2Proof.Machine.execReadCountersPort s
  | .readCountersSource => Sys2Proof.Machine.execReadCountersSource s
  | .loadBegin => Sys2Proof.Machine.execLoadBegin s
  | .loadEnd => Sys2Proof.Machine.execLoadEnd s
  | .validationEnd => Sys2Proof.Machine.execValidationEnd s
  | .classWrite => Sys2Proof.Machine.execClassWrite s
  | .templateWrite => Sys2Proof.Machine.execTemplateWrite s
  | .assetWrite => Sys2Proof.Machine.execAssetWrite s
  | .trunkWrite => Sys2Proof.Machine.execTrunkWrite s
  | .queryAsset => Sys2Proof.Machine.execQueryAsset s
  | .queryList => Sys2Proof.Machine.execQueryList s
  | .ackFault => Sys2Proof.Machine.execAckFault s
  | .ackRestored => Sys2Proof.Machine.execAckRestored s
  | .setServiceOut => Sys2Proof.Machine.execSetServiceOut s
  | .setServiceIn => Sys2Proof.Machine.execSetServiceIn s
  | .stormOn => Sys2Proof.Machine.execStormOn s
  | .stormOff => Sys2Proof.Machine.execStormOff s
  | .escArm => Sys2Proof.Machine.execEscArm s
  | .escAck => Sys2Proof.Machine.execEscAck s
  | .flashErase => Sys2Proof.Machine.execFlashErase s
  | .flashEraseBlock => Sys2Proof.Machine.execFlashEraseBlock s
  | .flashWrite => Sys2Proof.Machine.execFlashWrite s
  | .flashWriteEnd => Sys2Proof.Machine.execFlashWriteEnd s

end Sys2Proof.Machine
end

