-- ==== Sys2Proof/Safety.lean ====
section
/-! DEFINITION. What a safe run keeps, in the terms the statements use: the canonical form of every memory, the capacities,
the order of the two queues, the quiet of a correlator that is not READY, the soundness of the tables in service, the bounds
of a record's run, the attribution of faults and the standing of their roots. Also the words in which the statements speak of
the Management Agent and of the Link Qualifier. -/

namespace Sys2Proof.Machine

/-! ### The agent executing and answering a command -/

/-- The agent is in the first action of the command with MGMT payload `p`. -/
def State.executes (s : State) (p : Bytes) : Prop :=
  s.inReset = false ∧ s.agent.long = none ∧ s.agent.state = .executing p

/-- The reply of a command with payload `p` is placed in the reply buffer, and the agent enters REPLY WAITING (R173). -/
def State.answered (s : State) (p : Bytes) (status : ReplyStatus) (results : Bytes) : State :=
  { s with agent.state := .replyWaiting }.placeReply (replyPayload p status results)

/-! ### Memories -/

/-- Every keyed memory of the part is in its canonical form. -/
structure State.Canonical (s : State) : Prop where
  records : Table.wf clearRecord s.correlator.records
  trunks : Table.wf none s.tables.trunks
  assets : Table.wf unwrittenAsset s.tables.assets
  classes : Table.wf none s.tables.classes
  templates : Table.wf invalidTemplate s.tables.templates
  sources : Table.wf unusedSource s.sources.table
  buckets : Table.wf emptyBucket s.storm.buckets
  flash : Memory.wf s.flash

/-! ### The Link Qualifier -/

/-- `t` is `s` after the four effects of an entry to PASS, in their order (R150): passed at and run, the resume time, the
sequences of every source forgotten, and a LINK_UP notice built as R99 says and handed to the Notice Queue. A watchdog mark
of the model's own lapses (log entry 6). -/
def State.PassEntered (s t : State) : Prop :=
  ∃ forgotten : Table SourceEntry,
    (s.Canonical → ∀ n, tableGet unusedSource forgotten n = { s.source n with expected := none, lastAccepted := none }) ∧
    t = { s with
      link.state := .pass
      link.run := 0
      link.passedAt := some s.agent.time
      link.watchdogDue := false
      correlator.resumeTime := s.agent.time
      sources.table := forgotten }.arrive
        ⟨.linkUp, .link, .normal, .none, none, 0, 0, 31, s.agent.time, 1, none, 0#20⟩

/-- `t` is `s` after the Link Qualifier has taken a good frame (R147): last good frame is now in every link state; in
QUALIFYING the run rises by one, and a run that reaches N enters PASS. A watchdog mark of the model's own lapses (log entry
6). -/
def State.GoodFrameTaken (s t : State) : Prop :=
  let heard : State := { s with link.lastGood := some s.agent.time, link.watchdogDue := false }
  (s.link.state ≠ .qualifying → t = heard) ∧
  (s.link.state = .qualifying → s.link.run + 1 < s.agent.config.passThreshold →
    t = { heard with link.run := s.link.run + 1 }) ∧
  (s.link.state = .qualifying → s.agent.config.passThreshold ≤ s.link.run + 1 → heard.PassEntered t)


/-! ### Capacities and ranges -/

/-- The counters of group PORT, in the order of R181. -/
def State.portCounters (s : State) : List Nat :=
  let f := s.fport.counters
  let d := s.dport.counters
  [f.good, f.checkFailures, f.malformed, f.wrongDirection, f.uncorrelated, f.downOverflows, f.transmitted,
    d.good, d.checkFailures, d.malformed, d.wrongDirection, d.upOverflows, d.noticesSent, d.repliesSent, d.forwardedSent,
    s.notices.evicted, s.notices.dropped, s.sweep.adoptDrops, s.agent.overruns]

/-- The six counters of a source (R152). -/
def SourceEntry.counters (e : SourceEntry) : List Nat :=
  [e.framesAccepted, e.duplicates, e.lostFrames, e.unmappedItems, e.malformedItems, e.testItems]

/-- The fields of a configuration set lie in the ranges of R178. -/
structure ConfigSet.InRange (c : ConfigSet) : Prop where
  passThreshold : c.passThreshold ≤ 15
  keepalive : 1 ≤ c.keepalive ∧ c.keepalive ≤ 60
  sourceMultiple : 2 ≤ c.sourceMultiple ∧ c.sourceMultiple ≤ 15
  floors : c.escalationFloor ≤ 31 ∧ c.stormFloor ≤ 31
  stormTrigger : c.stormTrigger ≤ 4095
  selects : c.stat0 ≤ 7 ∧ c.stat1 ≤ 7

/-- The times a record stores: last heard, qualified at, joined at, test until and the flap stamp (R1). -/
def FaultRecord.times (r : FaultRecord) : List Nat :=
  r.lastHeard.toList ++ r.qualifiedAt.toList ++ r.joinedAt.toList ++ r.testUntil.toList ++ [r.flapStamp]

/-- The Command, Sweep and Notice Queues, the forward FIFOs and the receive buffers hold at most what the manual gives them;
the transmit sequence, notice number, source sequences, counters, flap scores, bucket counts, link run, scan position, asset
count, manual floor and configuration set lie in their ranges; and the time base, resume time and stored record times do not
pass the greatest time (00_scope.md, Capacities; R1, R29, R31, R41, R49, R85, R104, R111, R127, R145, R152, R163, R166, R169,
R171, R172, R178). -/
structure State.WithinCapacity (s : State) : Prop where
  commandQueue : s.agent.queue.length ≤ 4
  sweepQueue : s.sweep.jobs.length ≤ 8
  noticeQueue : s.notices.entries.length ≤ 256
  forwardUp : s.dport.up.length ≤ 16
  forwardDown : s.fport.down.length ≤ 16
  fieldBuffer : s.fport.receive.length ≤ 247
  dispatchBuffer : s.dport.receive.length ≤ 247
  transmitSequence : s.dport.sequence < 256
  noticeNumber : s.dport.noticeNumber < 65536
  portCounters : ∀ c ∈ s.portCounters, c ≤ 65535
  sourceCounters : ∀ e ∈ s.sources.table, ∀ c ∈ e.2.counters, c ≤ 65535
  sourceSequences : ∀ e ∈ s.sources.table, ∀ q ∈ e.2.expected.toList ++ e.2.lastAccepted.toList, q < 256
  flapScores : ∀ e ∈ s.correlator.records, e.2.flapScore ≤ 65535
  bucketCounts : ∀ e ∈ s.storm.buckets, e.2.count ≤ 4095
  linkRun : s.link.run ≤ 14
  scanPosition : s.scan < 32768
  assetCount : s.tables.assetCount ≤ 32768
  manualFloor : s.storm.manualFloor ≤ 31
  config : s.agent.config.InRange
  recordTimes : ∀ e ∈ s.correlator.records, ∀ time ∈ e.2.times, time ≤ 4294967295
  timeBase : s.agent.time ≤ 4294967295
  resumeTime : s.correlator.resumeTime ≤ 4294967295

/-! ### The two queues -/

/-- The Notice Queue holds at most 256 entries, at most one for each subject and family, each of priority 0..31 (R95,
R104). -/
structure State.NoticesApart (s : State) : Prop where
  places : s.notices.entries.length ≤ 256
  apart : s.notices.entries.Pairwise fun m n => ¬ (m.subject = n.subject ∧ m.kind.family = n.kind.family)
  priorities : ∀ n ∈ s.notices.entries, n.priority ≤ 31

/-- Two walks that may not both be queued: of one asset, or both ACK (R49). -/
def Walk.clashes : Walk → Walk → Prop
  | .adopt a, .adopt b | .adopt a, .release b | .release a, .adopt b | .release a, .release b => a = b
  | .ack _, .ack _ => True
  | .ack _, .adopt _ | .ack _, .release _ | .adopt _, .ack _ | .release _, .ack _ => False

/-- The Sweep Queue is as R49 says: at most 8 jobs, one for an asset and one ACK; the first RUNNING, every other WAITING
with no position and no tally; and a walk position names an entry of the list, which holds each asset once (R56, R70). -/
structure State.SweepOrdered (s : State) : Prop where
  places : s.sweep.jobs.length ≤ 8
  apart : s.sweep.jobs.Pairwise fun i j => ¬ i.walk.clashes j.walk
  first : ∀ j ∈ s.sweep.jobs.head?, j.state = .running
  others : ∀ j ∈ s.sweep.jobs.tail, j.state = .waiting ∧ j.position = none ∧ j.tally = 0
  onBoard : ∀ j ∈ s.sweep.jobs, ∀ e ∈ j.position, e ∈ s.board
  once : s.board.Nodup

/-! ### The correlator -/

/-- A correlator that is not READY holds no fault (R2): every record is clear, the list and the Sweep Queue are empty and the
independent-fault count is 0. A restart in progress has the correlator CLEARING, a validation VALIDATING. -/
structure State.QuietUnlessReady (s : State) : Prop where
  clearing : ∀ toReady, s.agent.long = some (.clearing toReady) → s.correlator.state = .clearing
  validating : ∀ declared, s.agent.long = some (.validating declared) → s.correlator.state = .validating
  quiet : s.correlator.state ≠ .ready →
    s.correlator.records = [] ∧ s.board = [] ∧ s.sweep.jobs = [] ∧ s.correlator.independentCount = 0

/-- Every loaded class holds fields in the ranges of R131. -/
def State.ClassesInRange (s : State) : Prop := ∀ n c, s.loadedClass n = some c → c.inRange = true

/-- The tables hold a load that validation accepts, at the asset count in force (R127, R130, R131, R142). -/
structure State.TablesSound (s : State) : Prop where
  loaded : ∀ a < s.tables.assetCount, (s.loadedClass (s.asset a).cls).isSome
  parents : ∀ a < s.tables.assetCount, ∀ p ∈ (s.asset a).parent, p < a
  trunks : ∀ n < 1024, ∀ r ∈ tableGet none s.tables.trunks n, r.base + r.length ≤ s.tables.assetCount

/-- The memories are canonical, and the tables are sound whenever the correlator is READY, or in the CLEARING that ends in
READY. -/
structure State.ServiceSound (s : State) : Prop where
  canonical : s.Canonical
  quiet : s.QuietUnlessReady
  ready : s.correlator.state = .ready → s.TablesSound
  returning : s.agent.long = some (.clearing true) → s.TablesSound

/-- The bounds of a record's run (R5): below Q in SUSPECT, at most P in RECOVERING, 0 in every other condition. -/
def runBound (c : ClassEntry) (r : FaultRecord) : Prop :=
  match r.condition with
  | .suspect => r.run < c.qualifyCount
  | .recovering => r.run ≤ c.restoreCount
  | .unknown | .normal | .fault | .silent | .outOfService => r.run = 0

/-- The memories are canonical, and every record's run is within the bounds that the class governing it gives. -/
structure State.RunsBounded (s : State) : Prop where
  canonical : s.Canonical
  quiet : s.QuietUnlessReady
  classes : s.ClassesInRange
  runs : ∀ a, runBound (s.classOf a) (s.record a)

/-- Causes, dependents, the independent-fault count and the board say the same of every fault (R4, R45, R46, R70). -/
structure State.Attributed (s : State) : Prop where
  canonical : Table.wf clearRecord s.correlator.records
  causeFaulted : ∀ a, (s.record a).cause ≠ none → (s.record a).faulted = true
  dependents : ∀ x, (s.record x).dependents = s.correlator.records.countP fun e => decide (e.2.cause = some x)
  independents : s.correlator.independentCount = s.correlator.records.countP fun e => e.2.independent
  listed : ∀ a, a ∈ s.board ↔ (s.record a).listed = true
  once : s.board.Nodup

/-- The ancestors of an asset within a number of parent links, nearest first (R14). -/
def State.ancestors (s : State) : Nat → Nat → List Nat
  | 0, _ => []
  | links + 1, a =>
    match (s.asset a).parent with
    | none => []
    | some p => p :: s.ancestors links p

/-- Every cause stands (R46): it names an ancestor within 4 parent links, and a record with dependents is masking-faulted or
the subject of a RELEASE job in the Sweep Queue (R3). With it stands what it rests on: faults are attributed, the Sweep Queue
is in order and the tables in service are sound; the root of a RELEASE job is not masking-faulted (R66), and the running one
has every dependent of its root still ahead of it (R63); a record at or above the asset count is clear (R1); and the scan
position lies below the asset count (R85). -/
structure State.RootsStand (s : State) : Prop where
  attributed : s.Attributed
  sweep : s.SweepOrdered
  service : s.ServiceSound
  links : ∀ a root, (s.record a).cause = some root → root ∈ s.ancestors 4 a
  roots : ∀ a, 0 < (s.record a).dependents → s.maskingFaulted a = true ∨ ∃ j ∈ s.sweep.jobs, j.walk = .release a
  released : ∀ j ∈ s.sweep.jobs, ∀ root, j.walk = .release root → s.maskingFaulted root = false
  ahead : ∀ j ∈ s.sweep.jobs.head?, ∀ root, j.walk = .release root → ∀ e, (s.record e).cause = some root →
    ∃ p, j.position = some p ∧ e ∈ s.board.dropWhile fun x => decide (x ≠ p)
  beyond : ∀ a, s.tables.assetCount ≤ a → s.record a = clearRecord
  scan : s.scan = 0 ∨ s.scan < s.tables.assetCount
  scanAtRest : s.correlator.state ≠ .ready → s.scan = 0

end Sys2Proof.Machine
end

