-- ==== Sys2Proof/Certificates/Slice0/Obligations.lean ====
section
/-! DEFINITION. The statements for the provers, in the order of OBLIGATIONS.json: the step and the whole machine, power and
time, the field line, the ports, the engines, the commands of the agent, the correlator's operations, and the invariants. -/

open Sys2Proof Sys2Proof.Machine

/-! ### The step and the whole machine -/

/-- The step takes the command at the front of the queue and makes its effect with the queue's rest; with no command waiting
the part idles (the model's choice, log entry 13). -/
def Obligations.StepRunsFrontCommand : Prop :=
  (∀ (c : Instr) (rest : List Instr) (s : State), s.pending = c :: rest → step s = exec c { s with pending := rest }) ∧
  ∀ s : State, s.pending = [] → step s = .next s

/-- No command stops the part, and none touches the queue of waiting commands: in every state each answers a next state with
the queue as it was (the manual names no event that stops the part; log entry 7).

A command whose step cannot occur changes nothing (the model's choice, log entry 7): INIT_END outside INIT, the end of an
activity that is not going on, the end of a frame that is not being sent, a stored frame with no replay at a frame start, and a
sweep step with no job. In reset so does every command but RESET_ASSERT, its release and the line signal (log entry 14). -/
def Obligations.EveryCommandCompletes : Prop :=
  (
  ∀ (c : Instr) (s : State), ∃ t, exec c s = .next t ∧ t.pending = s.pending) ∧
  (
  ∀ s : State,
    (s.correlator.state ≠ .init → exec .initEnd s = .next s) ∧
    (s.agent.long = none → exec .clearingEnd s = .next s ∧ exec .validationEnd s = .next s ∧
      exec .flashEraseBlock s = .next s ∧ exec .flashWriteEnd s = .next s) ∧
    (s.fport.sending = none → exec .fPortFrameSent s = .next s) ∧
    (s.dport.sending = none → exec .dPortFrameSent s = .next s) ∧
    ((∀ o n, s.agent.state ≠ .replaying o n none) → exec .bootReplayFrame s = .next s) ∧
    (s.sweep.jobs = [] → exec .sweepStep s = .next s)) ∧
  (
  ∀ (c : Instr) (s : State), s.inReset = true → c ≠ .resetAssert →
    (∀ node modePins boot, c ≠ .powerOnResetRelease node modePins boot) → c ≠ .lineSignalLoss → c ≠ .lineSignalReturn →
    exec c s = .next s)

/-- The straps change at power-on reset release alone; the configuration set there, at CONFIG and in the boot replay; the
mode there, at SET MODE and in the replay; the time base there, at its advance, at TIME SET and in the replay (R29, R178,
R180, R185).

The flash changes at the end of an erased block and at the end of a write alone (R186). -/
def Obligations.RegistersChangeOnlyByTheirCommands : Prop :=
  (
  ∀ (c : Instr) (s t : State), (∀ node modePins boot, c ≠ .powerOnResetRelease node modePins boot) → exec c s = .next t →
    t.straps = s.straps ∧
    (c ≠ .config → c ≠ .bootReplayFrame → t.agent.config = s.agent.config) ∧
    (c ≠ .setMode → c ≠ .bootReplayFrame → t.agent.mode = s.agent.mode) ∧
    (c ≠ .timeSet → c ≠ .timeBaseAdvance → c ≠ .bootReplayFrame → t.agent.time = s.agent.time)) ∧
  (
  ∀ (c : Instr) (s t : State), c ≠ .flashEraseBlock → c ≠ .flashWriteEnd → exec c s = .next t → t.flash = s.flash)

/-! ### Power and time -/

/-- RESET_ASSERT: the part is held in reset, nothing is being sent and no command goes on (R185, R186); FAIL is asserted and
ALERT, STAT0 and STAT1 deasserted (R124). That everything else is as it was while RSTN is low is the model's reading (log
entry 14).

POWER_ON_RESET_RELEASE: what R185 lists takes the values it gives, every block its power-on values, and the flash and the
FSIG level stay; initialisation goes on and the agent is held, in a state that is the model's reading beside the four of R173
(log entry 15); FAIL is asserted and ALERT deasserted (R2, R29, R41, R85, R92, R110, R111, R116, R124, R126, R145, R173, R185).
The link state DOWN before INIT ends and the empty receive buffers are the model's values (log entry 2), and so is that the
records read clear from the release on (log entry 19). -/
def Obligations.ResetHoldsAndReleaseSetsEveryBlock : Prop :=
  (
  ∀ s : State,
    exec .resetAssert s =
      .next { s with inReset := true, fport.sending := none, dport.sending := none, agent.long := none } ∧
    ∀ t, exec .resetAssert s = .next t → t.fail = true ∧ t.alert = false ∧ t.stat0 = false ∧ t.stat1 = false) ∧
  (
  ∀ (node modePins : Nat) (boot : Bool) (s : State), node < 64 → modePins < 4 →
    ∃ t, exec (.powerOnResetRelease node modePins boot) s = .next t ∧
      t.inReset = false ∧ t.straps = ⟨node, boot⟩ ∧
      t.agent.mode = (match modePins with | 0 => .passThrough | 1 => .monitor | _ => .correlate) ∧
      t.agent.time = 0 ∧ t.correlator.resumeTime = 0 ∧
      t.agent.config = ⟨3, .strict, 10, 3, 24, 0, 16, 0, 2⟩ ∧
      t.correlator.state = .init ∧ t.initialising = true ∧ t.agent.state = .held ∧
      t.agent.bootFailed = false ∧ t.agent.bootOrdinal = 0 ∧
      t.agent.queue = [] ∧ t.agent.long = none ∧ t.agent.overruns = 0 ∧
      (∀ a, t.record a = clearRecord) ∧ t.correlator.independentCount = 0 ∧ t.board = [] ∧
      t.sweep = ⟨[], 0⟩ ∧ t.scan = 0 ∧ t.notices = ⟨[], 0, 0⟩ ∧ t.storm = ⟨.calm, 0, []⟩ ∧ t.escalation = .disarmed ∧
      t.tables = ⟨[], [], [], [], 0⟩ ∧ (∀ n, t.source n = unusedSource) ∧
      t.link = ⟨.down, 0, none, none, false⟩ ∧
      t.dport = ⟨[], [], none, none, .notice, 0, 0, zeroDispatchCounters⟩ ∧
      t.fport = ⟨s.fport.lineSignal, [], [], none, zeroFieldCounters⟩ ∧
      t.flash = s.flash ∧ t.pending = s.pending ∧ t.fail = true ∧ t.alert = false)

/-- INIT_END, out of reset in INIT: LOADING is entered with the records clear, the link state follows the line signal with
run 0, and the agent enters IDLE, taking a waiting frame, or REPLAYING from the start of the flash with boot choice 1, in
which initialisation goes on (R2, R124, R145, R173, R185). -/
def Obligations.InitEndEntersLoading : Prop :=
  ∀ s : State, s.inReset = false → s.correlator.state = .init →
    let loading : State := { s with
      link.state := if s.fport.lineSignal then .qualifying else .down
      link.run := 0
      correlator.state := .loading
      correlator.records := []
      correlator.independentCount := 0
      board := []
      sweep.jobs := [] }
    (s.straps.boot = false →
      exec .initEnd s = .next { loading with initialising := false, agent.state := .idle }.takeCommand) ∧
    (s.straps.boot = true →
      exec .initEnd s = .next { loading with initialising := true, agent.state := .replaying 0 0 none })

/-- TIME_BASE_ADVANCE, out of reset: below its greatest value the time base rises by one, and the deadlines of R34 are
evaluated into the model's own marks of a watchdog and of sources that are due (log entry 6); at 4,294,967,295 it holds.
Nothing else changes. -/
def Obligations.TimeBaseAdvancesByOne : Prop :=
  ∀ s : State, s.inReset = false →
    (s.agent.time < 4294967295 →
      ∃ watchdog due,
        exec .timeBaseAdvance s =
          .next { s with agent.time := s.agent.time + 1, link.watchdogDue := watchdog, sources.due := due } ∧
        (watchdog = true ↔ s.link.state = .pass ∧ 0 < s.agent.config.passThreshold ∧
          2 * s.agent.config.keepalive <
            s.agent.time + 1 - max (s.link.lastGood.getD 0) (s.link.passedAt.getD 0)) ∧
        ∀ n, n ∈ due ↔ n < 64 ∧ s.correlator.state = .ready ∧ s.agent.mode ≠ .passThrough ∧ s.link.state = .pass ∧
          ((s.source n).state = .waiting ∨ (s.source n).state = .alive) ∧
          s.agent.config.keepalive * s.agent.config.sourceMultiple <
            s.agent.time + 1 - max ((s.source n).lastFrameTime.getD 0) s.correlator.resumeTime) ∧
    (4294967295 ≤ s.agent.time → exec .timeBaseAdvance s = .next s)

/-! ### The field line and its sources -/

/-- LINK_WATCHDOG_EXPIRY of a watchdog that the last advance found due and that is still expired: the link becomes
QUALIFYING with run 0 and a LINK_DOWN notice arrives at the Notice Queue, built as R99 says (R40, R149, R150; the mark is the
model's own, log entry 6).

SOURCE_SILENT of a source that the last advance found due and whose window is still run out: the source becomes SILENT and
a SOURCE_SILENT notice of priority 28 arrives at the Notice Queue, built as R99 says (R40, R99, R156; the mark is the model's
own, log entry 6).

Neither changes anything where its test fails, whatever the mark: a link that is not PASS, N = 0 or a deadline not passed; a
correlator not READY, PASS-THROUGH, a link not PASS, a source neither WAITING nor ALIVE or a window not run out (R149, R156).
Nor does either without its mark, though its test holds, as it may after a TIME SET or a CONFIG: a deadline runs out at an
advance alone (R34; log entry 6). -/
def Obligations.DeadlinesExpire : Prop :=
  (
  ∀ s : State, s.inReset = false → s.link.watchdogDue = true → s.link.state = .pass → 0 < s.agent.config.passThreshold →
    2 * s.agent.config.keepalive < s.agent.time - max (s.link.lastGood.getD 0) (s.link.passedAt.getD 0) →
    exec .linkWatchdogExpiry s = .next
      ({ s with link.watchdogDue := false, link.state := .qualifying, link.run := 0 }.arrive
        ⟨.linkDown, .link, .silent, .major, none, 0, 0, 31, s.agent.time, 1, none, 0#20⟩)) ∧
  (
  ∀ (n : Nat) (s : State), n < 64 → s.inReset = false → n ∈ s.sources.due → s.correlator.state = .ready →
    s.agent.mode ≠ .passThrough → s.link.state = .pass → ((s.source n).state = .waiting ∨ (s.source n).state = .alive) →
    s.agent.config.keepalive * s.agent.config.sourceMultiple <
      s.agent.time - max ((s.source n).lastFrameTime.getD 0) s.correlator.resumeTime →
    exec (.sourceSilent n) s = .next
      ({ s with
          sources.due := s.sources.due.erase n
          sources.table := tableSet unusedSource s.sources.table n { s.source n with state := .silent } }.arrive
        ⟨.sourceSilent, .source n, .silent, .major, none, 0,
          (s.zoneLookup (BitVec.ofNat 20 (n * 16384))).1, 28, s.agent.time, 1, none, BitVec.ofNat 20 (n * 16384)⟩)) ∧
  (
  ∀ s : State,
    (s.link.watchdogDue = false → exec .linkWatchdogExpiry s = .next s) ∧
    (∀ n : Nat, n ∉ s.sources.due → exec (.sourceSilent n) s = .next s) ∧
    ((s.link.state ≠ .pass ∨ s.agent.config.passThreshold = 0 ∨
        s.agent.time - max (s.link.lastGood.getD 0) (s.link.passedAt.getD 0) ≤ 2 * s.agent.config.keepalive) →
      exec .linkWatchdogExpiry s = .next s) ∧
    ∀ n : Nat,
      (s.correlator.state ≠ .ready ∨ s.agent.mode = .passThrough ∨ s.link.state ≠ .pass ∨
        (s.source n).state ≠ .waiting ∧ (s.source n).state ≠ .alive ∨
        s.agent.time - max ((s.source n).lastFrameTime.getD 0) s.correlator.resumeTime ≤
          s.agent.config.keepalive * s.agent.config.sourceMultiple) →
      exec (.sourceSilent n) s = .next s)

/-- LINE_SIGNAL_LOSS, with the receivers enabled: the indication falls; a PASS link becomes DOWN with run 0 and LINK_DOWN
arrives at the Notice Queue; a QUALIFYING link becomes DOWN with run 0; a DOWN link stays (R99, R146, R150).

LINE_SIGNAL_RETURN to a DOWN link, with the receivers enabled: above a pass threshold of 0 the link becomes QUALIFYING
with run 0; at 0 it enters PASS with the effects of R150: passed at and the resume time become now, every source's expected
sequence and last accepted sequence become unknown and none with the rest of its entry kept, and a LINK_UP notice arrives at
the Notice Queue (R93, R99, R146, R150). A watchdog mark of the model's own lapses with either (log entry 6).

Before the receivers are enabled either changes the indication alone, and so does a return to a link that is not DOWN (R145,
R146; in reset by log entry 14). -/
def Obligations.LineSignalMovesTheLink : Prop :=
  (
  ∀ s : State, s.inReset = false → s.correlator.state ≠ .init →
    (s.link.state = .pass → exec .lineSignalLoss s = .next
      ({ s with fport.lineSignal := false, link.state := .down, link.run := 0, link.watchdogDue := false }.arrive
        ⟨.linkDown, .link, .silent, .major, none, 0, 0, 31, s.agent.time, 1, none, 0#20⟩)) ∧
    (s.link.state = .qualifying →
      exec .lineSignalLoss s = .next { s with fport.lineSignal := false, link.state := .down, link.run := 0 }) ∧
    (s.link.state = .down → exec .lineSignalLoss s = .next { s with fport.lineSignal := false })) ∧
  (
  ∀ s : State, s.inReset = false → s.correlator.state ≠ .init → s.link.state = .down →
    (0 < s.agent.config.passThreshold →
      exec .lineSignalReturn s = .next { s with fport.lineSignal := true, link.state := .qualifying, link.run := 0 }) ∧
    (s.agent.config.passThreshold = 0 →
      ∃ forgotten : Table SourceEntry,
        (s.Canonical → ∀ n, tableGet unusedSource forgotten n =
          { s.source n with expected := none, lastAccepted := none }) ∧
        exec .lineSignalReturn s = .next
          ({ s with
              fport.lineSignal := true
              link.state := .pass
              link.run := 0
              link.passedAt := some s.agent.time
              link.watchdogDue := false
              correlator.resumeTime := s.agent.time
              sources.table := forgotten }.arrive
            ⟨.linkUp, .link, .normal, .none, none, 0, 0, 31, s.agent.time, 1, none, 0#20⟩))) ∧
  (
  ∀ s : State,
    ((s.inReset = true ∨ s.correlator.state = .init) →
      exec .lineSignalLoss s = .next { s with fport.lineSignal := false }) ∧
    ((s.inReset = true ∨ s.correlator.state = .init ∨ s.link.state ≠ .down) →
      exec .lineSignalReturn s = .next { s with fport.lineSignal := true }))

/-! ### Frames and ports -/

/-- A frame the part builds, or any frame closed by its check word, of fields in range is judged good, and a receiver reads
back from it the fields it was built with (R43, R44, R159, R163).

The judgement of any bytes: fewer than 7 or more than 247 are malformed, whatever else; then a sum other than 0xFFFF is a check
failure, whatever the form; then a frame of kind outside 1..5, node above 63, channel above 15, length above 240 or not the
length carried, or a REPORT of a length not a multiple of 5, is malformed; and any other is good (R163). -/
def Obligations.BuiltFrameIsJudgedGood : Prop :=
  (
  ∀ (kind node channel sequence : Nat) (payload : Bytes), 1 ≤ kind → kind ≤ 5 → node ≤ 63 → channel ≤ 15 → sequence ≤ 255 →
    payload.length ≤ 240 → (kind = 1 → payload.length % 5 = 0) →
    let f := buildFrame kind node channel sequence payload
    judge f = .good ∧ f.length = 7 + payload.length ∧ frameKind f = kind ∧ frameNode f = node ∧ frameChannel f = channel ∧
      frameSequence f = sequence ∧ framePayload f = payload) ∧
  (
  ∀ f : Bytes,
    let carried := byteAt f 4
    let shaped := 1 ≤ byteAt f 0 ∧ byteAt f 0 ≤ 5 ∧ byteAt f 1 ≤ 63 ∧ byteAt f 2 ≤ 15 ∧ carried ≤ 240 ∧
      f.length = 7 + carried ∧ (byteAt f 0 = 1 → carried % 5 = 0)
    ((f.length < 7 ∨ 247 < f.length) → judge f = .malformed) ∧
    (7 ≤ f.length → f.length ≤ 247 →
      (receivedSum f ≠ 0xFFFF#16 → judge f = .checkFailure) ∧
      (receivedSum f = 0xFFFF#16 → ¬ shaped → judge f = .malformed) ∧
      (receivedSum f = 0xFFFF#16 → shaped → judge f = .good)))

/-- The check word detects any single damaged byte: a frame whose words sum to 0xFFFF, check word included, no longer does
when one of its bytes has another value (02_correlator_arithmetic.md, 2.7; R44).

The check word itself: the bytes two at a time are 16-bit words, high byte first, a last odd byte with a low byte of 0; their
sum drops a carry out of 16 bits and adds 1; the check word is 0xFFFF less the sum, and a receiver adds the last two bytes of a
frame to the sum of those before them (R43, R44). -/
def Obligations.SingleDamagedByteIsDetected : Prop :=
  (
  ∀ (f : Bytes) (i : Nat) (b : Byte), 7 ≤ f.length → i < f.length → f[i]? ≠ some b →
    receivedSum f = 0xFFFF#16 → receivedSum (f.set i b) ≠ 0xFFFF#16) ∧
  (
  let words := fun bs : Bytes => (List.range ((bs.length + 1) / 2)).map fun k => byteAt bs (2 * k) * 256 + byteAt bs (2 * k + 1)
  let add := fun m n : Nat => if m + n < 65536 then m + n else m + n - 65536 + 1
  let sum := fun bs : Bytes => (words bs).foldl add 0
  (∀ bs, (checkWord bs).toNat = 65535 - sum bs) ∧
  ∀ (bs : Bytes) (hi lo : Byte), (receivedSum (bs ++ [hi, lo])).toNat = add (sum bs) (hi.toNat * 256 + lo.toNat))

/-- A frame whose first byte arrived before the receivers were enabled, and any frame while they are not, is not received on
either port: nothing changes (R163).

A frame that ends on the F-port damaged or malformed, with the receivers enabled, is counted and kept in the receive
buffer alone, and the Link Qualifier takes its judgement: DOWN nothing, QUALIFYING run 0, PASS nothing for a malformed frame
or in LENIENT, and in STRICT a check failure takes the link to QUALIFYING with LINK_DOWN (R99, R147, R148, R150, R163,
R171); with N = 0 too, by the model's choice between R148 and R149 (log entry 31).

A good COMMAND or MGMT frame that ends on the F-port, with the receivers enabled, is counted good, kept in the receive buffer
alone and counted wrong direction once the Link Qualifier has taken it: last good frame is now in every link state; in
QUALIFYING the run rises by one, and a run that reaches N enters PASS with every effect of R150: passed at and the resume
time now, run 0, every source's sequences forgotten and a LINK_UP notice (R93, R99, R147, R150, R163, R164, R171). A watchdog
mark of the model's own lapses (log entry 6). -/
def Obligations.FieldFrameIsJudgedForTheLink : Prop :=
  (
  ∀ (f : Bytes) (s : State),
    exec (.fPortFrameReceived ⟨f, true⟩) s = .next s ∧ exec (.dPortFrameReceived ⟨f, true⟩) s = .next s ∧
    ∀ early, (s.inReset = true ∨ s.correlator.state = .init) →
      exec (.fPortFrameReceived ⟨f, early⟩) s = .next s ∧ exec (.dPortFrameReceived ⟨f, early⟩) s = .next s) ∧
  (
  ∀ (f : Bytes) (s : State), s.inReset = false → s.correlator.state ≠ .init → judge f ≠ .good →
    let kept : State := { s with fport.receive := f.take 247 }
    let counted : State :=
      if judge f = .checkFailure then
        { kept with fport.counters.checkFailures := min 65535 (s.fport.counters.checkFailures + 1) }
      else { kept with fport.counters.malformed := min 65535 (s.fport.counters.malformed + 1) }
    (s.link.state = .down → exec (.fPortFrameReceived ⟨f, false⟩) s = .next counted) ∧
    (s.link.state = .qualifying → exec (.fPortFrameReceived ⟨f, false⟩) s = .next { counted with link.run := 0 }) ∧
    (s.link.state = .pass → (judge f = .malformed ∨ s.agent.config.errorMode = .lenient) →
      exec (.fPortFrameReceived ⟨f, false⟩) s = .next counted) ∧
    (s.link.state = .pass → judge f = .checkFailure → s.agent.config.errorMode = .strict →
      exec (.fPortFrameReceived ⟨f, false⟩) s = .next
        ({ counted with link.state := .qualifying, link.run := 0, link.watchdogDue := false }.arrive
          ⟨.linkDown, .link, .silent, .major, none, 0, 0, 31, s.agent.time, 1, none, 0#20⟩))) ∧
  (
  ∀ (f : Bytes) (s : State), s.inReset = false → s.correlator.state ≠ .init → judge f = .good →
    (frameKind f = 2 ∨ frameKind f = 4) →
    let counted : State := { s with
      fport.receive := f.take 247
      fport.counters.good := min 65535 (s.fport.counters.good + 1) }
    ∃ q : State, counted.GoodFrameTaken q ∧
      exec (.fPortFrameReceived ⟨f, false⟩) s = .next
        { q with fport.counters.wrongDirection := min 65535 (s.fport.counters.wrongDirection + 1) })

/-- A good NOTICE, REPLY or REPORT that ends on the F-port, with the receivers enabled, is counted good and kept in the receive
buffer, and the Link Qualifier takes it first, in every link state: one that brings a QUALIFYING run to N has every effect of
the entry to PASS, and is then handed on in a link that is PASS (R147, R150, R163). A NOTICE or REPLY, and a REPORT out of
CORRELATE, is handed to the forward-up FIFO (R164). A REPORT is then taken when the correlator is READY, the mode correlating,
the link PASS and its source used, and otherwise counted uncorrelated; a taken duplicate raises its source's duplicates alone,
and any other is accepted and its items taken in order (R153, R154, R157; the order of forwarding and taking is the model's,
log entry 10). -/
def Obligations.GoodFieldFrameIsHandedOn : Prop :=
  ∀ (f : Bytes) (s : State), s.inReset = false → s.correlator.state ≠ .init → judge f = .good →
    let counted : State := { s with
      fport.receive := f.take 247
      fport.counters.good := min 65535 (s.fport.counters.good + 1) }
    ∃ q : State, counted.GoodFrameTaken q ∧
      let up : State := if q.agent.mode = .correlate then q else q.forwardUp f
      let e := q.source (frameNode f)
      let taken := q.correlator.state = .ready ∧ q.agent.mode ≠ .passThrough ∧ q.link.state = .pass ∧ e.state ≠ .unused
      let repeated : Table SourceEntry :=
        tableSet unusedSource q.sources.table (frameNode f) { e with duplicates := min 65535 (e.duplicates + 1) }
      ((frameKind f = 3 ∨ frameKind f = 5) → exec (.fPortFrameReceived ⟨f, false⟩) s = .next (q.forwardUp f)) ∧
      (frameKind f = 1 → ¬ taken → exec (.fPortFrameReceived ⟨f, false⟩) s = .next
        { up with fport.counters.uncorrelated := min 65535 (s.fport.counters.uncorrelated + 1) }) ∧
      (frameKind f = 1 → taken → e.lastAccepted = some (frameSequence f) →
        exec (.fPortFrameReceived ⟨f, false⟩) s = .next { up with sources.table := repeated }) ∧
      (frameKind f = 1 → taken → e.lastAccepted ≠ some (frameSequence f) →
        exec (.fPortFrameReceived ⟨f, false⟩) s = .next
          ((up.acceptReport (frameNode f) (frameSequence f)).takeItems (frameNode f) (frameChannel f)
            (itemsOf (framePayload f))))

/-- An accepted report counts the frames lost since the expected sequence modulo 256, takes up its sequence, sets last frame
time and raises frames accepted; WAITING or SILENT becomes ALIVE with restored at now, and from SILENT a SOURCE_BACK notice of
priority 28 arrives; every other source's entry is unchanged (R31, R99, R154, R155).

Its items are taken in the order they stand: one of status 3 raises the source's malformed items alone; one whose point lies
in no valid Trunk Map run of its source and channel, or maps to an index at or above the asset count, its unmapped items
alone; any other is processed for the asset at the run's base plus the point (R6, R128, R157).

The items of a payload are its runs of five bytes, item 0 first: bit 15 of the first word says whether bytes 3 and 4 hold a
measured value, bits 11 and 10 are the status (3 malformed), bits 9 to 0 the point, and byte 2 the detail; bits 14 to 12 are
ignored (R160). -/
def Obligations.AcceptedReportUpdatesItsSource : Prop :=
  (
  ∀ (s : State) (n q : Nat), q < 256 → (∀ x, (s.source n).expected = some x → x < 256) →
    let e := s.source n
    let lost := match e.expected with | none => 0 | some x => if x ≤ q then q - x else q + 256 - x
    let heard : SourceEntry := { e with
      expected := some (if q = 255 then 0 else q + 1)
      lastAccepted := some q
      lastFrameTime := some s.agent.time
      framesAccepted := min 65535 (e.framesAccepted + 1)
      lostFrames := min 65535 (e.lostFrames + lost)
      state := if e.state = .waiting ∨ e.state = .silent then .alive else e.state
      restoredAt := if e.state = .waiting ∨ e.state = .silent then some s.agent.time else e.restoredAt }
    let updated : State := { s with sources.table := tableSet unusedSource s.sources.table n heard }
    (e.state ≠ .silent → s.acceptReport n q = updated) ∧
    (e.state = .silent → s.acceptReport n q = updated.arrive
      ⟨.sourceBack, .source n, .normal, .none, none, 0, (s.zoneLookup (BitVec.ofNat 20 (n * 16384))).1, 28, s.agent.time, 1,
        none, BitVec.ofNat 20 (n * 16384)⟩) ∧
    updated.source n = heard ∧ ∀ m, m ≠ n → updated.source m = s.source m) ∧
  (
  ∀ (s : State) (n channel : Nat) (i : Item) (rest : List Item),
    let e := s.source n
    let put (entry : SourceEntry) : State := { s with sources.table := tableSet unusedSource s.sources.table n entry }
    let maps (a : Nat) := ∃ run : TrunkRun, tableGet none s.tables.trunks (n * 16 + channel) = some run ∧
      i.point < run.length ∧ a = run.base + i.point ∧ a < s.tables.assetCount
    s.takeItems n channel [] = s ∧
    s.takeItems n channel (i :: rest) = (s.takeItem n channel i).takeItems n channel rest ∧
    (i.status = none →
      s.takeItem n channel i = put { e with malformedItems := min 65535 (e.malformedItems + 1) }) ∧
    (i.status ≠ none → (∀ a, ¬ maps a) →
      s.takeItem n channel i = put { e with unmappedItems := min 65535 (e.unmappedItems + 1) }) ∧
    ∀ status a, i.status = some status → maps a → s.takeItem n channel i = s.processItem a i status n) ∧
  (
  (∀ short : Bytes, short.length < 5 → itemsOf short = []) ∧
  ∀ (high low detail v1 v2 : Byte) (rest : Bytes),
    let word := high.toNat * 256 + low.toNat
    ∃ i : Item, itemsOf (high :: low :: detail :: v1 :: v2 :: rest) = i :: itemsOf rest ∧
      i.point = word % 1024 ∧ i.detail = detail.toNat ∧
      i.value = (if word < 32768 then none else some (v1.toNat * 256 + v2.toNat)) ∧
      (word / 1024 % 4 = 0 → i.status = some .ok) ∧ (word / 1024 % 4 = 1 → i.status = some .degraded) ∧
      (word / 1024 % 4 = 2 → i.status = some .failed) ∧ (word / 1024 % 4 = 3 → i.status = none))

/-- A frame that ends on the D-port, with the receivers enabled, is kept in the receive buffer and counted by its judgement;
a good REPORT, NOTICE or REPLY is wrong direction; a good MGMT of another node goes to the forward-down FIFO, and one of the
strapped node joins the Command Queue when fewer than 4 frames wait, or is a management overrun (R163, R165, R171, R172,
R173).

A good COMMAND on the D-port goes to the forward-down FIFO. A TEST of 3 bytes or more that found a place there, with the
correlator READY and its point mapped to an asset whose class has a test holdoff above 0, sets the asset's test until to now
plus the holdoff, stopping at the greatest time; any other COMMAND changes no record (R25, R30, R128, R161, R165).

An IDLE agent with a frame waiting takes the head of the Command Queue and executes its payload; nothing else is taken (R173). -/
def Obligations.DispatchFrameIsHandedOnByKind : Prop :=
  (
  ∀ (f : Bytes) (s : State), s.inReset = false → s.correlator.state ≠ .init →
    let kept : State := { s with dport.receive := f.take 247 }
    let counted : State := { kept with dport.counters.good := min 65535 (s.dport.counters.good + 1) }
    (judge f = .checkFailure → exec (.dPortFrameReceived ⟨f, false⟩) s =
      .next { kept with dport.counters.checkFailures := min 65535 (s.dport.counters.checkFailures + 1) }) ∧
    (judge f = .malformed → exec (.dPortFrameReceived ⟨f, false⟩) s =
      .next { kept with dport.counters.malformed := min 65535 (s.dport.counters.malformed + 1) }) ∧
    (judge f = .good →
      ((frameKind f = 1 ∨ frameKind f = 3 ∨ frameKind f = 5) → exec (.dPortFrameReceived ⟨f, false⟩) s =
        .next { counted with dport.counters.wrongDirection := min 65535 (s.dport.counters.wrongDirection + 1) }) ∧
      (frameKind f = 4 → frameNode f ≠ s.straps.node → exec (.dPortFrameReceived ⟨f, false⟩) s = .next (counted.forwardDown f)) ∧
      (frameKind f = 4 → frameNode f = s.straps.node → s.agent.queue.length < 4 →
        exec (.dPortFrameReceived ⟨f, false⟩) s = .next { counted with agent.queue := s.agent.queue ++ [f] }.takeCommand) ∧
      (frameKind f = 4 → frameNode f = s.straps.node → 4 ≤ s.agent.queue.length →
        exec (.dPortFrameReceived ⟨f, false⟩) s = .next { counted with agent.overruns := min 65535 (s.agent.overruns + 1) }))) ∧
  (
  ∀ (f : Bytes) (s : State), s.inReset = false → s.correlator.state ≠ .init → judge f = .good → frameKind f = 2 →
    let counted : State := { s with
      dport.receive := f.take 247
      dport.counters.good := min 65535 (s.dport.counters.good + 1) }
    let p := framePayload f
    let point := (byteAt p 1 * 256 + byteAt p 2) % 1024
    let mapped (a : Nat) := ∃ run : TrunkRun, tableGet none s.tables.trunks (frameNode f * 16 + frameChannel f) = some run ∧
      point < run.length ∧ a = run.base + point ∧ a < s.tables.assetCount
    let test := s.fport.down.length < 16 ∧ 3 ≤ p.length ∧ byteAt p 0 = 0x54 ∧ s.correlator.state = .ready
    (∀ a, test → mapped a → 0 < (s.classOf a).testHoldoff →
      exec (.dPortFrameReceived ⟨f, false⟩) s = .next ((counted.forwardDown f).setRecord a
        { s.record a with testUntil := some (min 4294967295 (s.agent.time + (s.classOf a).testHoldoff)) })) ∧
    ((¬ test ∨ ∀ a, mapped a → (s.classOf a).testHoldoff = 0) →
      exec (.dPortFrameReceived ⟨f, false⟩) s = .next (counted.forwardDown f))) ∧
  (
  ∀ s : State,
    ((s.agent.state ≠ .idle ∨ s.agent.queue = []) → s.takeCommand = s) ∧
    ∀ f rest, s.agent.state = .idle → s.agent.queue = f :: rest →
      s.takeCommand = { s with agent.state := .executing (framePayload f), agent.queue := rest })

/-- A frame handed to a forward FIFO of 16 frames is discarded and counted; otherwise it joins the tail, and an IDLE F-port
transmitter takes the forward-down head at once, as an IDLE D-port transmitter makes its choice (R166, R167, R168).

F_PORT_FRAME_SENT, out of reset while SENDING: the frame is counted, and the transmitter takes the next head of the
forward-down FIFO and stays SENDING, or becomes IDLE (R167, R171). -/
def Obligations.ForwardFifosAndTheFieldTransmitter : Prop :=
  (
  ∀ (f : Bytes) (s : State),
    (16 ≤ s.fport.down.length →
      s.forwardDown f = { s with fport.counters.downOverflows := min 65535 (s.fport.counters.downOverflows + 1) }) ∧
    (s.fport.down.length < 16 → s.fport.sending ≠ none →
      s.forwardDown f = { s with fport.down := s.fport.down ++ [f] }) ∧
    (s.fport.down = [] → s.fport.sending = none → s.forwardDown f = { s with fport.sending := some f }) ∧
    (16 ≤ s.dport.up.length →
      s.forwardUp f = { s with dport.counters.upOverflows := min 65535 (s.dport.counters.upOverflows + 1) }) ∧
    (s.dport.up.length < 16 → s.dport.sending ≠ none → s.forwardUp f = { s with dport.up := s.dport.up ++ [f] }) ∧
    (s.dport.up.length < 16 → s.dport.sending = none →
      s.forwardUp f = { s with dport.up := s.dport.up ++ [f] }.choose)) ∧
  (
  ∀ s : State, s.inReset = false → s.fport.sending ≠ none →
    (s.fport.down = [] → exec .fPortFrameSent s = .next { s with
      fport.sending := none
      fport.counters.transmitted := min 65535 (s.fport.counters.transmitted + 1) }) ∧
    (∀ f rest, s.fport.down = f :: rest → exec .fPortFrameSent s = .next { s with
      fport.sending := some f
      fport.down := rest
      fport.counters.transmitted := min 65535 (s.fport.counters.transmitted + 1) }))

/-- D_PORT_FRAME_SENT, out of reset while SENDING: the arbiter sends a waiting reply first; below it an eligible head of
priority 24 or more; then, of a head and a forwarded frame, the one the mark does not name; then whichever there is; and with
nothing available the transmitter becomes IDLE (R107, R108, R168). -/
def Obligations.ArbiterServesInOrder : Prop :=
  ∀ s : State, s.inReset = false → s.dport.sending ≠ none →
    (∀ p, s.dport.reply = some p → exec .dPortFrameSent s = .next (s.sendReply p)) ∧
    (s.dport.reply = none →
      (∀ n, s.presented = some n → (24 ≤ n.priority ∨ s.dport.up = [] ∨ s.dport.mark = .forward) →
        exec .dPortFrameSent s = .next (s.sendNotice n)) ∧
      (∀ n f rest, s.presented = some n → n.priority < 24 → s.dport.up = f :: rest → s.dport.mark = .notice →
        exec .dPortFrameSent s = .next (s.sendForward f rest)) ∧
      (∀ f rest, s.presented = none → s.dport.up = f :: rest → exec .dPortFrameSent s = .next (s.sendForward f rest)) ∧
      (s.presented = none → s.dport.up = [] → exec .dPortFrameSent s = .next { s with dport.sending := none }))

/-- What leaves with each choice: a notice leaves the queue as a NOTICE frame of the strapped node, channel 0, the transmit
sequence and the notice number, and both rise round their ranges; a forwarded frame leaves the FIFO as received; a reply
leaves the buffer as a REPLY frame and the agent goes on. The mark follows a notice or forwarded frame (R107, R109, R162,
R166, R168, R169, R170, R171, R173).

A command's answer: vector, tag, status and results make the reply, the agent enters REPLY WAITING, a SENDING D-port
transmitter leaves the reply in the buffer, and an IDLE one sends it at once (R161, R168, R170, R173, R174).

The 25 bytes of a NOTICE payload are the notice number, kind, subject, condition, severity, cause (0xFFFF for none), detail,
zone, priority, event time, count, measured value (0 when absent), its presence and the field address, in that order, high
bytes first, with the codes of R162; the reply statuses have the codes of R161. -/
def Obligations.RepliesNoticesAndForwardsAreSent : Prop :=
  (
  ∀ (s : State) (n : Notice) (f p : Bytes) (rest : List Bytes),
    s.sendNotice n = { s with
      dport.sending := some (buildFrame 3 s.straps.node 0 s.dport.sequence (noticePayload s.dport.noticeNumber n))
      dport.sequence := (s.dport.sequence + 1) % 256
      dport.noticeNumber := (s.dport.noticeNumber + 1) % 65536
      dport.mark := .notice
      dport.counters.noticesSent := min 65535 (s.dport.counters.noticesSent + 1)
      notices.entries := s.notices.entries.erase n } ∧
    s.sendForward f rest = { s with
      dport.sending := some f
      dport.up := rest
      dport.mark := .forward
      dport.counters.forwardedSent := min 65535 (s.dport.counters.forwardedSent + 1) } ∧
    let sent : State := { s with
      dport.sending := some (buildFrame 5 s.straps.node 0 s.dport.sequence p)
      dport.sequence := (s.dport.sequence + 1) % 256
      dport.reply := none
      dport.counters.repliesSent := min 65535 (s.dport.counters.repliesSent + 1) }
    (s.agent.state ≠ .replyWaiting → s.sendReply p = sent) ∧
    (s.agent.state = .replyWaiting → s.agent.queue = [] → s.sendReply p = { sent with agent.state := .idle }) ∧
    (∀ g more, s.agent.state = .replyWaiting → s.agent.queue = g :: more →
      s.sendReply p = { sent with agent.state := .executing (framePayload g), agent.queue := more })) ∧
  (
  ∀ (s : State) (vector tag : Byte) (args results : Bytes) (status : ReplyStatus),
    let reply := vector :: tag :: BitVec.ofNat 8 (replyCode status) :: results
    (s.dport.sending ≠ none → s.answered (vector :: tag :: args) status results =
      { s with agent.state := .replyWaiting, dport.reply := some reply }) ∧
    (s.dport.sending = none → s.answered (vector :: tag :: args) status results =
      { s with agent.state := .replyWaiting, dport.reply := some reply }.sendReply reply)) ∧
  (
  (∀ (number : Nat) (n : Notice),
    let one := fun x : Nat => [BitVec.ofNat 8 x]
    let two := fun x : Nat => one (x / 256) ++ one x
    let four := fun x : Nat => one (x / 16777216) ++ one (x / 65536) ++ two x
    let subject : Nat × Nat := match n.subject with
      | .asset a => (1, a) | .source k => (2, k) | .link => (3, 0) | .storm => (4, 0)
    noticePayload number n =
      two number ++ one (noticeKindCode n.kind) ++ one subject.1 ++ two subject.2 ++ one (conditionCode n.condition)
        ++ one (severityCode n.severity) ++ two (n.cause.getD 65535) ++ one n.detail ++ one n.zone ++ one n.priority
        ++ four n.eventTime ++ two n.count ++ two (n.value.getD 0) ++ one (if n.value.isSome then 1 else 0)
        ++ one (n.address.toNat / 65536) ++ two n.address.toNat ∧
    (noticePayload number n).length = 25) ∧
  [NoticeKind.out, .silent, .changed, .restored, .unmasked, .transient, .adopted, .flap, .flapEnd, .sourceSilent,
    .sourceBack, .linkDown, .linkUp, .storm, .escalation].map noticeKindCode =
      [1, 2, 3, 4, 5, 6, 7, 8, 9, 16, 17, 18, 19, 20, 21] ∧
  [Condition.unknown, .normal, .suspect, .fault, .recovering, .silent, .outOfService].map conditionCode =
    [0, 1, 2, 3, 4, 5, 6] ∧
  [Severity.none, .minor, .major].map severityCode = [0, 1, 2] ∧
  [ReplyStatus.done, .badVector, .badLength, .range, .state, .busy, .invalid, .cursorLost].map replyCode =
    [0, 1, 2, 3, 4, 5, 6, 7])

/-! ### The engines and the boot replay -/

/-- SCANNER_VISIT, while the scanner runs and there are assets: the position moves past the record, or to 0 after the last
asset; a record that is not considered or not silent is unchanged; a silent UNKNOWN, NORMAL or SUSPECT record qualifies into
SILENT MAJOR; a silent FAULT or RECOVERING record becomes SILENT MAJOR with run 0, and requests CHANGED if it is independent
(R32, R33, R86, R87, R88, R89, R90).

With the correlator not READY, in PASS-THROUGH, with the link not PASS or with no assets nothing is visited and nothing changes,
the position kept (R86, R87). -/
def Obligations.ScannerVisitFindsSilence : Prop :=
  (
  ∀ s : State, s.inReset = false → s.correlator.state = .ready → s.agent.mode ≠ .passThrough → s.link.state = .pass →
    0 < s.tables.assetCount →
    let a := s.scan
    let r := s.record a
    let c := s.classOf a
    let moved : State := { s with scan := if a + 1 < s.tables.assetCount then a + 1 else 0 }
    let restored := match r.lastSource with | none => 0 | some n => (s.source n).restoredAt.getD 0
    let fresh := r.condition = .unknown ∨ r.condition = .normal ∨ r.condition = .suspect
    let standing := r.condition = .fault ∨ r.condition = .recovering
    let silent := 0 < c.silenceMultiple ∧ (∀ n, r.lastSource = some n → (s.source n).state = .alive) ∧
      c.reportPeriod * c.silenceMultiple <
        s.agent.time - max (max (r.lastHeard.getD 0) restored) s.correlator.resumeTime
    let quiet : State := moved.setRecord a { r with condition := .silent, run := 0, severity := .major }
    ((¬ fresh ∧ ¬ standing ∨ ¬ silent) → exec .scannerVisit s = .next moved) ∧
    (fresh → silent → exec .scannerVisit s = .next (moved.qualify a .silent .major .silent)) ∧
    (standing → silent → r.cause ≠ none → exec .scannerVisit s = .next quiet) ∧
    (standing → silent → r.cause = none → exec .scannerVisit s =
      .next (quiet.requestAsset .changed a .silent .major none r.dependents))) ∧
  (
  ∀ s : State,
    (s.correlator.state ≠ .ready ∨ s.agent.mode = .passThrough ∨ s.link.state ≠ .pass ∨ s.tables.assetCount = 0) →
      exec .scannerVisit s = .next s)

/-- SWEEP_STEP, out of reset with a job in the queue, takes the first that applies: a RELEASE whose root has no dependents
ends; a job past the tail ends, an ADOPT with its ADOPTED request; otherwise the position moves to the entry's successor and
the job's test is made, ADOPT adopting, RELEASE re-attributing or unmasking, ACK clearing the latch, and an entry that fails
the test passed by (R53, R55, R58, R60, R63, R64, R65, R68).

An unmasked entry loses its cause, the root's dependents fall by one, the count rises by one, the latch becomes HELD, and
UNMASKED is requested with the entry's condition and severity, cause none and its dependents as count; a re-attributed one
changes its cause, and the two roots' dependents with it; no other record changes (R45, R64, R65). That the adoption test
reads an absent qualified at as 0 is the model's choice (log entry 29). -/
def Obligations.SweepStepTakesTheFirstThatApplies : Prop :=
  (
  ∀ (s : State) (j : SweepJob) (rest : List SweepJob), s.inReset = false → s.sweep.jobs = j :: rest →
    (∀ root, j.walk = .release root → (s.record root).dependents = 0 →
      exec .sweepStep s = .next (s.removeJob (.release root))) ∧
    (j.position = none →
      (∀ root, j.walk = .adopt root → exec .sweepStep s = .next (s.endAdopt root)) ∧
      (∀ zone, j.walk = .ack zone → exec .sweepStep s = .next (s.removeJob (.ack zone))) ∧
      (∀ root, j.walk = .release root → exec .sweepStep s = .next (s.removeJob (.release root)))) ∧
    ∀ e, j.position = some e →
      let moved : State := { s with sweep.jobs := { j with position := s.successor e } :: rest }
      let r := s.record e
      (∀ root, j.walk = .adopt root →
        let passes := e ≠ root ∧ r.faulted = true ∧ r.cause = none ∧
          (s.record root).qualifiedAt.getD 0 - (s.classOf root).adoptionWindow ≤ r.qualifiedAt.getD 0 ∧
          s.ancestor e = some root
        (passes → exec .sweepStep s = .next (moved.adopt root e)) ∧ (¬ passes → exec .sweepStep s = .next moved)) ∧
      (∀ root, j.walk = .release root → (s.record root).dependents ≠ 0 →
        (r.cause ≠ some root → exec .sweepStep s = .next moved) ∧
        (∀ b, r.cause = some root → s.ancestorExcluding root e = some b →
          exec .sweepStep s = .next ((moved.unattribute e).attribute e b)) ∧
        (r.cause = some root → s.ancestorExcluding root e = none → exec .sweepStep s = .next (moved.unmask e))) ∧
      (∀ zone, j.walk = .ack zone →
        let passes := r.faulted = false ∧ r.latch = .held ∧
          ∀ z, zone = some z → (s.zoneLookup (s.asset e).address).1 = z
        (passes → exec .sweepStep s = .next (moved.clearLatch e)) ∧ (¬ passes → exec .sweepStep s = .next moved))) ∧
  (
  ∀ (s : State) (e root : Nat), s.Canonical → (s.record e).cause = some root → e ≠ root →
    let r := s.record e
    let freed := { s.record root with dependents := (s.record root).dependents - 1 }
    (∃ records : Table FaultRecord,
      s.unmask e = ({ s with
        correlator.records := records
        correlator.independentCount := s.correlator.independentCount + 1 }).requestAsset
          .unmasked e r.condition r.severity none r.dependents ∧
      tableGet clearRecord records e = { r with cause := none, latch := .held } ∧
      tableGet clearRecord records root = freed ∧
      ∀ x, x ≠ e → x ≠ root → tableGet clearRecord records x = s.record x) ∧
    ∀ b, b ≠ e → b ≠ root → ∃ records : Table FaultRecord,
      (s.unattribute e).attribute e b = { s with correlator.records := records } ∧
      tableGet clearRecord records e = { r with cause := some b } ∧
      tableGet clearRecord records root = freed ∧
      tableGet clearRecord records b = { s.record b with dependents := (s.record b).dependents + 1 } ∧
      ∀ x, x ≠ e → x ≠ root → x ≠ b → tableGet clearRecord records x = s.record x)

/-- BOOT_REPLAY_FRAME, out of reset at a frame start, takes the first that applies: no room, end marker, bad frame, wrong
kind, command; the frame is the flash bytes from there, 7 and the length its fifth gives. A failure sets the boot-failed flag
with the ordinal one above the frames executed; the end of the replay ends initialisation and makes the agent IDLE; a command
is run on its payload with the next frame start after it, as one taken from the Command Queue would be (R187).

A stored command that ends DONE lets the replay go on with one frame more executed, its reply discarded; any other status
fails the replay at that frame (R187). A stored FLASH ERASE or FLASH WRITE of the right length is refused STATE, and so fails
the replay with the flash as it was (R175, R176, R186, R187).

What the replay runs is what the live command runs: for every row, the first action of a live payload of that row is the body
of the row on that payload, and so is what the replay runs on it (R176, R187). A row changes nothing while the agent is not in
the first action of a payload of it (log entry 7). -/
def Obligations.BootReplayRunsStoredFrames : Prop :=
  (
  ∀ (s : State) (o n : Nat), s.inReset = false → s.agent.state = .replaying o n none →
    let byte := fun i => (tableGet 0xFF#8 s.flash i).toNat
    let room := o + 7 + byte (o + 4) ≤ 1048576
    let f := s.flashRun o (7 + byte (o + 4))
    let failed : State :=
      { s with agent.bootFailed := true, agent.bootOrdinal := n + 1, initialising := false, agent.state := .idle }
    let ended : State := { s with initialising := false, agent.state := .idle }
    let running : State := { s with agent.state := .replaying (o + 7 + byte (o + 4)) n (some (framePayload f)) }
    (f.length = 7 + byte (o + 4) ∧ ∀ i < 7 + byte (o + 4), f[i]? = some (tableGet 0xFF#8 s.flash (o + i))) ∧
    (¬ room → exec .bootReplayFrame s = .next failed.takeCommand) ∧
    (room → byte o = 255 →
      (s.correlator.state = .ready → exec .bootReplayFrame s = .next ended.takeCommand) ∧
      (s.correlator.state ≠ .ready → exec .bootReplayFrame s = .next failed.takeCommand)) ∧
    (room → byte o ≠ 255 → (240 < byte (o + 4) ∨ receivedSum f ≠ 0xFFFF#16 ∨ byte o ≠ 4) →
      exec .bootReplayFrame s = .next failed.takeCommand) ∧
    (room → byte o = 4 → byte (o + 4) ≤ 240 → receivedSum f = 0xFFFF#16 →
      exec .bootReplayFrame s = .next (runCommand (framePayload f) running).settle) ∧
    (room → byte o = 4 → byte (o + 4) ≤ 240 → receivedSum f = 0xFFFF#16 →
      ((framePayload f).length = 2 ∧ byteAt (framePayload f) 0 = 30 ∨
        (framePayload f).length = 134 ∧ byteAt (framePayload f) 0 = 31) →
      exec .bootReplayFrame s = .next failed.takeCommand)) ∧
  (
  ∀ (s : State) (o n : Nat) (p results : Bytes) (status : ReplyStatus), s.agent.state = .replaying o n (some p) →
    (status = .done → s.finish status results = { s with agent.state := .replaying o (n + 1) none }) ∧
    (status ≠ .done → s.finish status results =
      { s with agent.bootFailed := true, agent.bootOrdinal := n + 1, initialising := false,
               agent.state := .idle }.takeCommand)) ∧
  (
  ∀ (p : Bytes) (c : Instr) (row : CommandRow) (body : Bytes → State → Ending), commandRow p = row →
    (c, row, body) ∈ ([(.mgmtBadVector, .badVector, badVectorBody), (.status, .status, statusBody),
      (.config, .config, configBody), (.timeSet, .timeSet, timeSetBody), (.setMode, .setMode, setModeBody),
      (.restartClear, .restartClear, restartBody), (.restartFull, .restartFull, restartBody),
      (.readCountersPort, .readCountersPort, readCountersPortBody),
      (.readCountersSource, .readCountersSource, readCountersSourceBody), (.loadBegin, .loadBegin, loadBeginBody),
      (.loadEnd, .loadEnd, loadEndBody), (.classWrite, .classWrite, classWriteBody),
      (.templateWrite, .templateWrite, templateWriteBody), (.assetWrite, .assetWrite, assetWriteBody),
      (.trunkWrite, .trunkWrite, trunkWriteBody), (.queryAsset, .queryAsset, queryAssetBody),
      (.queryList, .queryList, queryListBody), (.ackFault, .ackFault, ackFaultBody),
      (.ackRestored, .ackRestored, ackRestoredBody), (.setServiceOut, .setServiceOut, setServiceBody),
      (.setServiceIn, .setServiceIn, setServiceBody), (.stormOn, .stormOn, stormBody), (.stormOff, .stormOff, stormBody),
      (.escArm, .escArm, escArmBody), (.escAck, .escAck, escAckBody), (.flashErase, .flashErase, flashEraseBody),
      (.flashWrite, .flashWrite, flashWriteBody)] : List (Instr × CommandRow × (Bytes → State → Ending))) →
    (∀ s : State, s.executes p → exec c s = .next (body p s).settle) ∧ (∀ s : State, runCommand p s = body p s) ∧
    ∀ s : State, (∀ q, s.executes q → commandRow q ≠ row) → exec c s = .next s)

/-! ### The agent's own commands -/

/-- MGMT_BAD_VECTOR completes with the answer that is its own effect: BAD_LENGTH for a payload of fewer than 2 bytes, a vector
or tag not received answered as 0, and BAD_VECTOR for a vector the part does not know, with no results and nothing else
changed (R174, R175, R176).

Every management command whose argument length is not one its vector allows is refused BAD_LENGTH, and with the right length
every record and list command is refused STATE unless the correlator is READY, and every table write unless it is LOADING or
READY; nothing changes (R174, R175, R176). A TEMPLATE, ASSET or TRUNK WRITE allows 1 to 16, 29 or 16 whole entries of 10, 8 or
7 bytes.

The row of a payload is that of its vector, and for a vector of two rows that of the byte at its place, 1 naming one row; that
any other byte, and a missing one, names the other row is the model's choice where R176 lists no such code (log entry 5). -/
def Obligations.MalformedCommandsAreRefused : Prop :=
  (
  ∀ (s : State) (p : Bytes), s.executes p →
    (p.length < 2 → exec .mgmtBadVector s = .next (s.answered p .badLength []) ∧
      s.answered p .badLength [] =
        { s with agent.state := .replyWaiting }.placeReply [p.getD 0 0#8, p.getD 1 0#8, 2#8]) ∧
    (2 ≤ p.length → byteAt p 0 ∉ [1, 2, 3, 4, 5, 6, 8, 9, 10, 11, 12, 13, 16, 17, 18, 19, 20, 24, 25, 26, 30, 31] →
      exec .mgmtBadVector s = .next (s.answered p .badVector []) ∧
      s.answered p .badVector [] =
        { s with agent.state := .replyWaiting }.placeReply [p.getD 0 0#8, p.getD 1 0#8, 1#8])) ∧
  (
  ∀ (s : State) (p : Bytes) (c : Instr) (row : CommandRow) (length : Nat), s.executes p → commandRow p = row →
    ((c, row, length) ∈ ([(.status, .status, 0), (.config, .config, 10), (.timeSet, .timeSet, 4), (.setMode, .setMode, 1),
        (.restartClear, .restartClear, 1), (.restartFull, .restartFull, 1), (.readCountersPort, .readCountersPort, 3),
        (.readCountersSource, .readCountersSource, 3), (.loadBegin, .loadBegin, 0), (.loadEnd, .loadEnd, 2),
        (.classWrite, .classWrite, 21), (.stormOn, .stormOn, 2), (.stormOff, .stormOff, 2), (.escArm, .escArm, 0),
        (.escAck, .escAck, 1), (.flashErase, .flashErase, 0), (.flashWrite, .flashWrite, 132)] :
          List (Instr × CommandRow × Nat)) → p.length - 2 ≠ length → exec c s = .next (s.answered p .badLength [])) ∧
    ((c, row, length) ∈ ([(.queryAsset, .queryAsset, 3), (.queryList, .queryList, 5), (.ackFault, .ackFault, 2),
        (.ackRestored, .ackRestored, 2), (.setServiceOut, .setServiceOut, 3), (.setServiceIn, .setServiceIn, 3)] :
          List (Instr × CommandRow × Nat)) →
      (p.length - 2 ≠ length → exec c s = .next (s.answered p .badLength [])) ∧
      (p.length - 2 = length → s.correlator.state ≠ .ready → exec c s = .next (s.answered p .state [])))) ∧
  (
  ∀ (s : State) (p : Bytes) (c : Instr) (row : CommandRow) (size most : Nat), s.executes p → commandRow p = row →
    (c, row, size, most) ∈ ([(.templateWrite, .templateWrite, 10, 16), (.assetWrite, .assetWrite, 8, 29),
      (.trunkWrite, .trunkWrite, 7, 16)] : List (Instr × CommandRow × Nat × Nat)) →
    let whole := ∃ n, 1 ≤ n ∧ n ≤ most ∧ p.length - 2 = n * size
    (¬ whole → exec c s = .next (s.answered p .badLength [])) ∧
    (whole → s.correlator.state ≠ .loading → s.correlator.state ≠ .ready →
      exec c s = .next (s.answered p .state []))) ∧
  (
  ∀ p : Bytes, (p.length < 2 → commandRow p = .badVector) ∧
    (2 ≤ p.length → byteAt p 0 ∉ [1, 2, 3, 4, 5, 6, 8, 9, 10, 11, 12, 13, 16, 17, 18, 19, 20, 24, 25, 26, 30, 31] →
      commandRow p = .badVector) ∧
    (∀ row, 2 ≤ p.length → (byteAt p 0, row) ∈ ([(1, .status), (2, .config), (3, .timeSet), (4, .setMode), (8, .loadBegin),
        (9, .loadEnd), (10, .classWrite), (11, .templateWrite), (12, .assetWrite), (13, .trunkWrite), (16, .queryAsset),
        (17, .queryList), (18, .ackFault), (19, .ackRestored), (25, .escArm), (26, .escAck), (30, .flashErase),
        (31, .flashWrite)] : List (Nat × CommandRow)) → commandRow p = row) ∧
    ∀ place one other, 2 ≤ p.length → (byteAt p 0, place, one, other) ∈ ([(5, 2, .restartFull, .restartClear),
        (6, 2, .readCountersSource, .readCountersPort), (20, 4, .setServiceIn, .setServiceOut),
        (24, 2, .stormOn, .stormOff)] : List (Nat × Nat × CommandRow × CommandRow)) →
      commandRow p = if byteAt p place = 1 then one else other)

/-- STATUS changes nothing and replies DONE with the results of R177 in their order, the states in the codes of R177, high
bytes first; with arguments it is refused BAD_LENGTH (R174, R175, R176, R177; the zeros of an absent context are the model's
reading, log entry 11). -/
def Obligations.StatusRepliesWithTheState : Prop :=
  (
  ∀ (s : State) (tag : Byte) (args : Bytes), s.executes (1#8 :: tag :: args) →
    (args ≠ [] → exec .status s = .next (s.answered (1#8 :: tag :: args) .badLength [])) ∧
    (args = [] → exec .status s = .next (s.answered [1#8, tag] .done
      (byte1 (correlatorCode s.correlator.state) ++ byte1 (modeCode s.agent.mode) ++ byte1 (linkCode s.link.state)
        ++ byte1 (stormCode s.storm.state) ++ byte1 s.floor ++ byte1 (escalationCode s.escalation)
        ++ (match s.escalation with
            | .raised c | .held c =>
              [1#8] ++ byte2 c.asset ++ byte3 c.address.toNat ++ byte1 c.cls ++ byte1 (severityCode c.severity)
                ++ byte1 c.priority ++ byte4 c.qualifiedAt ++ byte2 c.faultCount
            | .disarmed | .armed => List.replicate 15 0#8)
        ++ byte2 s.board.length ++ byte2 s.correlator.independentCount ++ byte2 s.notices.entries.length
        ++ byte1 s.sweep.jobs.length ++ byte4 s.agent.time ++ [if s.agent.bootFailed then 1#8 else 0#8]
        ++ byte3 s.agent.bootOrdinal ++ byte2 s.notices.evicted ++ byte2 s.notices.dropped)))) ∧
  (
  [CorrelatorState.init, .clearing, .loading, .validating, .ready].map correlatorCode = [0, 1, 2, 3, 4] ∧
  [Mode.passThrough, .monitor, .correlate].map modeCode = [0, 1, 2] ∧
  [LinkState.down, .qualifying, .pass].map linkCode = [0, 1, 2] ∧
  [StormState.calm, .auto, .manual].map stormCode = [0, 1, 2] ∧
  (∀ c, [Escalation.disarmed, .armed, .raised c, .held c].map escalationCode = [0, 1, 2, 3]) ∧
  (∀ n, byte1 n = [BitVec.ofNat 8 n] ∧ byte2 n = byte1 (n / 256) ++ byte1 n ∧ byte3 n = byte1 (n / 65536) ++ byte2 n ∧
    byte4 n = byte1 (n / 16777216) ++ byte3 n) ∧
  [SourceState.unused, .waiting, .alive, .silent].map sourceCode = [0, 1, 2, 3])

/-- CONFIG of ten bytes in range writes the whole set in one action, takes a QUALIFYING link whose run reaches a changed N to
PASS with every effect of R150, offers an IDLE D-port transmitter what the new floor presents (log entry 12) and replies DONE;
N written with its present value changes nothing, and what the last advance marked by an N, K or source multiple that
changes lapses (the marks are the model's own, log entry 6). A wrong length is refused BAD_LENGTH and a field out of range
RANGE, with nothing changed (R151, R175, R176, R178).

The output lines out of reset: STAT0 and STAT1 each show the source that its select in the set names, in order the link PASS,
a source SILENT, a list not empty, an independent fault, a storm, 192 notices or more, a sweep job RUNNING and the correlator
READY (R125); ALERT is asserted exactly while the unit is RAISED, and FAIL while initialisation lasts, after a boot failure and
in LOADING and VALIDATING (R124). -/
def Obligations.ConfigWritesTheSet : Prop :=
  (
  ∀ (s : State) (tag : Byte) (args : Bytes), s.executes (2#8 :: tag :: args) →
    let p := 2#8 :: tag :: args
    (args.length ≠ 10 → exec .config s = .next (s.answered p .badLength [])) ∧
    ∀ n e k m f t1 t2 sf s0 s1 : Byte, args = [n, e, k, m, f, t1, t2, sf, s0, s1] →
      let inRange := n.toNat ≤ 15 ∧ e.toNat ≤ 1 ∧ 1 ≤ k.toNat ∧ k.toNat ≤ 60 ∧ 2 ≤ m.toNat ∧ m.toNat ≤ 15 ∧ f.toNat ≤ 31 ∧
        t1.toNat * 256 + t2.toNat ≤ 4095 ∧ sf.toNat ≤ 31 ∧ s0.toNat ≤ 7 ∧ s1.toNat ≤ 7
      let set : ConfigSet := ⟨n.toNat, if e = 1#8 then .lenient else .strict, k.toNat, m.toNat, f.toNat,
        t1.toNat * 256 + t2.toNat, sf.toNat, s0.toNat, s1.toNat⟩
      let old := s.agent.config
      let written : State := { s with
        agent.config := set
        link.watchdogDue :=
          if old.passThreshold = n.toNat ∧ old.keepalive = k.toNat then s.link.watchdogDue else false
        sources.due := if old.keepalive = k.toNat ∧ old.sourceMultiple = m.toNat then s.sources.due else [] }
      let passes := n.toNat ≠ old.passThreshold ∧ s.link.state = .qualifying ∧ n.toNat ≤ s.link.run
      (¬ inRange → exec .config s = .next (s.answered p .range [])) ∧
      (inRange → ¬ passes → exec .config s = .next (written.offerDispatch.answered p .done [])) ∧
      (inRange → passes → ∃ q : State, written.PassEntered q ∧
        exec .config s = .next (q.offerDispatch.answered p .done []))) ∧
  (
  ∀ s : State, s.inReset = false → s.Canonical →
    let shows (select : Nat) (line : Bool) :=
      (select = 0 → (line = true ↔ s.link.state = .pass)) ∧
      (select = 1 → (line = true ↔ ∃ n, (s.source n).state = .silent)) ∧
      (select = 2 → (line = true ↔ s.board ≠ [])) ∧
      (select = 3 → (line = true ↔ 0 < s.correlator.independentCount)) ∧
      (select = 4 → (line = true ↔ s.storm.state ≠ .calm)) ∧
      (select = 5 → (line = true ↔ 192 ≤ s.notices.entries.length)) ∧
      (select = 6 → (line = true ↔ ∃ j ∈ s.sweep.jobs, j.state = .running)) ∧
      (select = 7 → (line = true ↔ s.correlator.state = .ready))
    shows s.agent.config.stat0 s.stat0 ∧ shows s.agent.config.stat1 s.stat1 ∧
    (s.alert = true ↔ ∃ c, s.escalation = .raised c) ∧
    (s.fail = true ↔ s.initialising = true ∨ s.agent.bootFailed = true ∨ s.correlator.state = .loading ∨
      s.correlator.state = .validating))

/-- TIME SET replaces the time base and the resume time with its argument in one action and replies DONE, changing no stored
time (R179); an elapsed time from a stored time later than the new one is 0 (R30, R179); a time base set to 4,294,967,295 holds
there (R29, R179); a wrong length is refused BAD_LENGTH (R175, R176). What the last advance marked lapses, so that no deadline
runs out at the set (R34; the marks are the model's own, log entry 6). -/
def Obligations.TimeSetReplacesTheTimeBase : Prop :=
  ∀ (s : State) (tag : Byte) (args : Bytes), s.executes (3#8 :: tag :: args) →
    (args.length ≠ 4 → exec .timeSet s = .next (s.answered (3#8 :: tag :: args) .badLength [])) ∧
    ∀ a b c d : Byte, args = [a, b, c, d] →
      let time := a.toNat * 16777216 + b.toNat * 65536 + c.toNat * 256 + d.toNat
      exec .timeSet s = .next
        ({ s with
            agent.time := time
            correlator.resumeTime := time
            link.watchdogDue := false
            sources.due := [] }.answered [3#8, tag, a, b, c, d] .done []) ∧
      (∀ stored, time ≤ stored → elapsed stored time = 0) ∧
      (time = 4294967295 → ∀ t, exec .timeSet s = .next t → exec .timeBaseAdvance t = .next t)

/-- SET MODE replaces the mode and replies DONE; leaving PASS-THROUGH sets the resume time to now, and every other change
leaves it; a wrong length is refused BAD_LENGTH and a mode above 2 RANGE (R93, R175, R176, R180). -/
def Obligations.SetModeReplacesTheMode : Prop :=
  ∀ (s : State) (tag : Byte) (args : Bytes), s.executes (4#8 :: tag :: args) →
    (args.length ≠ 1 → exec .setMode s = .next (s.answered (4#8 :: tag :: args) .badLength [])) ∧
    ∀ m : Byte, args = [m] →
      let p := [4#8, tag, m]
      let mode : Mode := if m = 0#8 then .passThrough else if m = 1#8 then .monitor else .correlate
      (2 < m.toNat → exec .setMode s = .next (s.answered p .range [])) ∧
      (m.toNat ≤ 2 → s.agent.mode = .passThrough → m ≠ 0#8 → exec .setMode s = .next
        ({ s with agent.mode := mode, correlator.resumeTime := s.agent.time }.answered p .done [])) ∧
      (m.toNat ≤ 2 → (s.agent.mode ≠ .passThrough ∨ m = 0#8) →
        exec .setMode s = .next ({ s with agent.mode := mode }.answered p .done []))

/-- READ COUNTERS: group PORT replies the 19 counters in the order of R181 and with clear zeroes them and nothing else; group
SOURCE replies the source's state and six counters and with clear zeroes the six, its state, sequences and times as they are;
an unknown group, a clear above 1 or a source above 63 of group SOURCE is refused RANGE (R176, R181). That an unknown group is
executed, and refused, by the row of group PORT is the model's choice (log entry 5). -/
def Obligations.ReadCountersSnapshotsAndClears : Prop :=
  ∀ (s : State) (tag group source clear : Byte), s.executes [6#8, tag, group, source, clear] →
    let p := [6#8, tag, group, source, clear]
    let e := s.source source.toNat
    let ports := (s.portCounters.map byte2).flatten
    let counts := byte1 (sourceCode e.state) ++ (e.counters.map byte2).flatten
    let zeroed : State := { s with
      fport.counters := ⟨0, 0, 0, 0, 0, 0, 0⟩
      dport.counters := ⟨0, 0, 0, 0, 0, 0, 0, 0⟩
      notices.evicted := 0
      notices.dropped := 0
      sweep.adoptDrops := 0
      agent.overruns := 0 }
    let emptied : Table SourceEntry := tableSet unusedSource s.sources.table source.toNat
      ⟨e.state, e.expected, e.lastAccepted, e.lastFrameTime, e.restoredAt, 0, 0, 0, 0, 0, 0⟩
    (group = 0#8 → clear = 0#8 → exec .readCountersPort s = .next (s.answered p .done ports)) ∧
    (group = 0#8 → clear = 1#8 → exec .readCountersPort s = .next (zeroed.answered p .done ports)) ∧
    ((1 < group.toNat ∨ group = 0#8 ∧ 1 < clear.toNat) → exec .readCountersPort s = .next (s.answered p .range [])) ∧
    (group = 1#8 → source.toNat ≤ 63 → clear = 0#8 →
      exec .readCountersSource s = .next (s.answered p .done counts)) ∧
    (group = 1#8 → source.toNat ≤ 63 → clear = 1#8 → exec .readCountersSource s =
      .next ({ s with sources.table := emptied }.answered p .done counts)) ∧
    (group = 1#8 → (63 < source.toNat ∨ 1 < clear.toNat) →
      exec .readCountersSource s = .next (s.answered p .range []))

/-! ### Restarts and loading -/

/-- RESTART CLEAR, RESTART FULL and LOAD BEGIN begin with CLEARING and the clearing act of R182 in one action, and go on; the
act empties the tables at FULL and LOAD BEGIN alone, and a RESTART CLEAR from READY leaves the used sources WAITING and every
other UNUSED. Everything the act does not name is kept (R2, R152, R182, R183), but that the model's own marks of sources lapse
(log entry 6). A level above 1 is refused RANGE, nothing changed (R175, R176), by the row RESTART_CLEAR (log entry 5).

CLEARING_END: the restart ends in READY with the resume time now, or in LOADING, and replies DONE; in the boot replay the
replay goes on (R93, R182, R183, R187). -/
def Obligations.RestartsClearAndEnd : Prop :=
  (
  ∀ s : State,
    let cleared (full toReady : Bool) (table : Table SourceEntry) : State := { s with
      fport.counters := ⟨0, 0, 0, 0, 0, 0, 0⟩
      dport.counters := ⟨0, 0, 0, 0, 0, 0, 0, 0⟩
      sources := ⟨table, []⟩
      tables := if full then ⟨[], [], [], [], 0⟩ else s.tables
      correlator.state := .clearing
      correlator.records := []
      correlator.independentCount := 0
      board := []
      sweep := ⟨[], 0⟩
      scan := 0
      notices := ⟨[], 0, 0⟩
      storm := ⟨.calm, 0, []⟩
      escalation := .disarmed
      agent.bootFailed := false
      agent.bootOrdinal := 0
      agent.overruns := 0
      agent.long := some (.clearing toReady) }
    (∀ tag : Byte, s.executes [5#8, tag, 0#8] → s.correlator.state = .ready → ∃ table,
      exec .restartClear s = .next (cleared false true table) ∧
      ∀ n, tableGet unusedSource table n =
        if n < 64 ∧ sourceUsed s.tables n = true then { unusedSource with state := .waiting } else unusedSource) ∧
    (∀ tag : Byte, s.executes [5#8, tag, 0#8] → s.correlator.state ≠ .ready →
      exec .restartClear s = .next (cleared false false [])) ∧
    (∀ tag : Byte, s.executes [5#8, tag, 1#8] → exec .restartFull s = .next (cleared true false [])) ∧
    (∀ tag : Byte, s.executes [8#8, tag] → exec .loadBegin s = .next (cleared true false [])) ∧
    (∀ tag level : Byte, s.executes [5#8, tag, level] → 1 < level.toNat →
      exec .restartClear s = .next (s.answered [5#8, tag, level] .range []))) ∧
  (
  ∀ (s : State) (toReady : Bool), s.inReset = false → s.agent.long = some (.clearing toReady) →
    let ended : State := if toReady then
        { s with agent.long := none, correlator.state := .ready, correlator.resumeTime := s.agent.time }
      else { s with agent.long := none, correlator.state := .loading }
    (∀ p, s.agent.state = .executing p → exec .clearingEnd s = .next (ended.answered p .done [])) ∧
    (∀ o n p, s.agent.state = .replaying o n (some p) →
      exec .clearingEnd s = .next { ended with agent.state := .replaying o (n + 1) none }))

/-- LOAD END enters VALIDATING with the count it declares, untested, while LOADING; in another correlator state it is refused
STATE, and with a wrong length BAD_LENGTH, nothing changed (R141, R175, R176, R183).

VALIDATION_END: when the five checks pass, the asset count becomes the declared count, the correlator READY, the resume
time now and every used source WAITING with its sequences and times none and its counters kept, and LOAD END replies DONE;
when one fails, the correlator returns to LOADING with nothing else changed, and the reply is INVALID with the check and the
index (R93, R129, R142, R143, R144, R152). Of a LOAD END in the boot replay the same holds, but that no reply is sent: success
lets the replay go on with one frame more executed, and a failing check fails the replay at that frame (R187). -/
def Obligations.LoadEndValidates : Prop :=
  (
  ∀ (s : State) (tag : Byte) (args : Bytes), s.executes (9#8 :: tag :: args) →
    (args.length ≠ 2 → exec .loadEnd s = .next (s.answered (9#8 :: tag :: args) .badLength [])) ∧
    ∀ hi lo : Byte, args = [hi, lo] →
      (s.correlator.state = .loading → exec .loadEnd s = .next { s with
        correlator.state := .validating
        agent.long := some (.validating (hi.toNat * 256 + lo.toNat)) }) ∧
      (s.correlator.state ≠ .loading → exec .loadEnd s = .next (s.answered [9#8, tag, hi, lo] .state []))) ∧
  (
  ∀ (s : State) (declared : Nat) (p : Bytes), s.inReset = false → s.agent.long = some (.validating declared) →
    s.agent.state = .executing p →
    (validate s.tables declared = none → ∃ table,
      exec .validationEnd s = .next ({ s with
        agent.long := none
        tables.assetCount := declared
        correlator.state := .ready
        correlator.resumeTime := s.agent.time
        sources.table := table }.answered p .done []) ∧
      (s.Canonical → ∀ n, tableGet unusedSource table n =
        if n < 64 ∧ sourceUsed s.tables n = true then
          { s.source n with
              state := .waiting, expected := none, lastAccepted := none, lastFrameTime := none, restoredAt := none }
        else s.source n)) ∧
    (∀ check index, validate s.tables declared = some (check, index) →
      exec .validationEnd s = .next
        ({ s with agent.long := none, correlator.state := .loading }.answered p .invalid (byte1 check ++ byte2 index)))) ∧
  (
  ∀ (s : State) (declared o n : Nat) (p : Bytes), s.inReset = false → s.agent.long = some (.validating declared) →
    s.agent.state = .replaying o n (some p) →
    (validate s.tables declared = none → ∃ table,
      exec .validationEnd s = .next { s with
        agent.long := none
        tables.assetCount := declared
        correlator.state := .ready
        correlator.resumeTime := s.agent.time
        sources.table := table
        agent.state := .replaying o (n + 1) none } ∧
      (s.Canonical → ∀ k, tableGet unusedSource table k =
        if k < 64 ∧ sourceUsed s.tables k = true then
          { s.source k with
              state := .waiting, expected := none, lastAccepted := none, lastFrameTime := none, restoredAt := none }
        else s.source k)) ∧
    (∀ check index, validate s.tables declared = some (check, index) →
      exec .validationEnd s = .next
        { s with
          agent.long := none
          correlator.state := .loading
          agent.bootFailed := true
          agent.bootOrdinal := n + 1
          initialising := false
          agent.state := .idle }.takeCommand))

/-- The five checks of validation: it passes exactly when the declared count lies in 0..32,768, every index below it has its
written mark set, names a loaded class and has parent none or lower, and every valid trunk entry lies within it; a failure
names the first failing check in that order, with the declared count for check 1 and the lowest failing index for the others
(R142). -/
def Obligations.ValidationMakesFiveChecks : Prop :=
  ∀ (t : LoadedTables) (declared : Nat),
    let asset := fun i => tableGet unwrittenAsset t.assets i
    let ok2 := fun i => (asset i).written = true
    let ok3 := fun i => (tableGet none t.classes (asset i).cls).isSome = true
    let ok4 := fun i => ∀ p, (asset i).parent = some p → p < i
    let ok5 := fun n => ∀ r, tableGet none t.trunks n = some r → r.base + r.length ≤ declared
    let pass1 := declared ≤ 32768
    let pass2 := ∀ i < declared, ok2 i
    let pass3 := ∀ i < declared, ok3 i
    let pass4 := ∀ i < declared, ok4 i
    let lowest (limit : Nat) (ok : Nat → Prop) (i : Nat) := i < limit ∧ ¬ ok i ∧ ∀ k < i, ok k
    (validate t declared = none ↔ pass1 ∧ pass2 ∧ pass3 ∧ pass4 ∧ ∀ n < 1024, ok5 n) ∧
    (¬ pass1 → validate t declared = some (1, declared)) ∧
    (∀ i, pass1 → lowest declared ok2 i → validate t declared = some (2, i)) ∧
    (∀ i, pass1 → pass2 → lowest declared ok3 i → validate t declared = some (3, i)) ∧
    (∀ i, pass1 → pass2 → pass3 → lowest declared ok4 i → validate t declared = some (4, i)) ∧
    (∀ i, pass1 → pass2 → pass3 → pass4 → lowest 1024 ok5 i → validate t declared = some (5, i))

/-! ### Table writes -/

/-- CLASS WRITE of 21 bytes, while LOADING or READY: an entry out of range is refused RANGE, and in READY one that changes the
masking of a loaded class STATE, each with place 1; any other is written whole, with the runs of the records it governs brought
within the new bounds in READY, and DONE. In another correlator state it is refused STATE (R5, R135, R136, R137, R175).

The run adjustment, in READY: where the Q of the class governing a SUSPECT record changed and the run is at or above the new Q
the run becomes the new Q - 1, where the P of one governing a RECOVERING record changed and the run is at or above the new P the
new P - 1, and nothing else of any record or block changes; in another state nothing changes (R5).

The range test and the fields of an entry are those of R131 and R136 at their places (R176), the marks in bits 0 to 5 of its byte
8 by the model's choice (log entry 4). The class of an asset is the loaded entry that the Asset Table names for it (R132). -/
def Obligations.ClassWriteWritesOneClass : Prop :=
  (
  ∀ (s : State) (tag : Byte) (e : Bytes), s.executes (10#8 :: tag :: e) → e.length = 21 →
    let p := 10#8 :: tag :: e
    let isOpen := s.correlator.state = .loading ∨ s.correlator.state = .ready
    let moves := s.correlator.state = .ready ∧
      ∃ c, s.loadedClass (classIndex e) = some c ∧ c.masking ≠ (classEntryOf e).masking
    let written : State :=
      { s with tables.classes := tableSet none s.tables.classes (classIndex e) (some (classEntryOf e)) }
    (¬ isOpen → exec .classWrite s = .next (s.answered p .state [])) ∧
    (isOpen → classInRange e = false → exec .classWrite s = .next (s.answered p .range [1#8])) ∧
    (isOpen → classInRange e = true → moves → exec .classWrite s = .next (s.answered p .state [1#8])) ∧
    (classInRange e = true → s.correlator.state = .loading → exec .classWrite s = .next (written.answered p .done [])) ∧
    (classInRange e = true → s.correlator.state = .ready → ¬ moves →
      exec .classWrite s = .next ((written.adjustRuns s).answered p .done []))) ∧
  (
  ∀ s before : State, s.Canonical →
    (s.correlator.state ≠ .ready → s.adjustRuns before = s) ∧
    (s.correlator.state = .ready → ∃ records, s.adjustRuns before = { s with correlator.records := records } ∧
      ∀ a, let r := s.record a
        let old := before.classOf a
        let new := s.classOf a
        let suspect := r.condition = .suspect ∧ new.qualifyCount ≠ old.qualifyCount ∧ new.qualifyCount ≤ r.run
        let recovering := r.condition = .recovering ∧ new.restoreCount ≠ old.restoreCount ∧ new.restoreCount ≤ r.run
        (suspect → tableGet clearRecord records a = { r with run := new.qualifyCount - 1 }) ∧
        (recovering → tableGet clearRecord records a = { r with run := new.restoreCount - 1 }) ∧
        (¬ suspect → ¬ recovering → tableGet clearRecord records a = r))) ∧
  (
  ∀ e : Bytes, e.length = 21 →
    let one := byteAt e
    let two := fun i => byteAt e i * 256 + byteAt e (i + 1)
    let mark := fun k => (byteAt e 8).testBit k
    classIndex e = one 0 ∧
    classEntryOf e = ⟨one 1, one 2, two 3, one 5, one 6, one 7, mark 0, mark 1, mark 2, mark 3, mark 4, mark 5, two 9, two 11,
      two 13, two 15, two 17, two 19⟩ ∧
    (classInRange e = true ↔
      one 0 ≤ 15 ∧ 1 ≤ one 1 ∧ one 1 ≤ 15 ∧ 1 ≤ one 2 ∧ one 2 ≤ 15 ∧ 1 ≤ two 3 ∧ two 3 ≤ 3600 ∧
      (one 5 = 0 ∨ 2 ≤ one 5 ∧ one 5 ≤ 15) ∧ one 6 ≤ 31 ∧ one 7 ≤ 31 ∧ two 9 ≤ 600 ∧ two 11 ≤ 4095 ∧ 1 ≤ two 13 ∧
      two 13 ≤ 3600 ∧ 1 ≤ two 15 ∧ two 17 < two 15 ∧ two 19 ≤ 600)) ∧
  (
  ∀ (s : State) (a : Nat) (c : ClassEntry),
    tableGet none s.tables.classes (tableGet unwrittenAsset s.tables.assets a).cls = some c → s.classOf a = c)

/-- TEMPLATE WRITE, ASSET WRITE and TRUNK WRITE of whole entries, while LOADING or READY: the first entry that fails its test
refuses the command with that test's code and its place, nothing written; when every entry passes, all are written in their
order in one action and the reply is DONE (R135, R138, R139, R140; an ASSET WRITE adjusts runs and a TRUNK WRITE the use of
sources in READY, R5, R129, each from the tables before the whole command to those after it, an entry named twice included, by
the model's choice, log entry 32). The entries are the consecutive pieces of the arguments, in their order (R135, R176).

The tests and fields of a template entry of 10 bytes and a trunk entry of 7 are those of R127, R133 and R136 at their places
(R176); that a valid byte above 1 is RANGE is the model's reading, for R136 does not list it (log entry 24); a trunk entry
written invalid holds nothing (log entry 26), and in READY a valid one must lie within the asset count.

The use of sources after a live change of the Trunk Map, in READY: a source is used when one of its 16 entries is valid; one
whose use did not change keeps its entry; one that gains its first valid entry is WAITING and one that loses its last UNUSED,
with sequences and times none and counters kept, and nothing else changes but the model's own marks (R129, R152; log entry
6). In another state nothing changes. -/
def Obligations.TableWritesAreAllOrNothing : Prop :=
  (
  ∀ (s : State) (tag : Byte) (args : Bytes), (s.correlator.state = .loading ∨ s.correlator.state = .ready) →
    let refusedAt (test : Bytes → Option ReplyStatus) (es : List Bytes) (i : Nat) (code : ReplyStatus) :=
      (∀ k < i, ∀ e, es[k]? = some e → test e = none) ∧ ∃ e, es[i]? = some e ∧ test e = some code
    (s.executes (11#8 :: tag :: args) → args.length % 10 = 0 → 10 ≤ args.length → args.length ≤ 160 →
      let p := 11#8 :: tag :: args
      let es := entriesOf 10 args
      (∀ i code, refusedAt templateTest es i code →
        exec .templateWrite s = .next (s.answered p code [BitVec.ofNat 8 (i + 1)])) ∧
      ((∀ e ∈ es, templateTest e = none) →
        exec .templateWrite s = .next ((es.foldl State.putTemplate s).answered p .done []))) ∧
    (s.executes (12#8 :: tag :: args) → args.length % 8 = 0 → 8 ≤ args.length → args.length ≤ 232 →
      let p := 12#8 :: tag :: args
      let es := entriesOf 8 args
      (∀ i code, refusedAt s.assetTest es i code →
        exec .assetWrite s = .next (s.answered p code [BitVec.ofNat 8 (i + 1)])) ∧
      ((∀ e ∈ es, s.assetTest e = none) →
        exec .assetWrite s = .next (((es.foldl State.putAsset s).adjustRuns s).answered p .done []))) ∧
    (s.executes (13#8 :: tag :: args) → args.length % 7 = 0 → 7 ≤ args.length → args.length ≤ 112 →
      let p := 13#8 :: tag :: args
      let es := entriesOf 7 args
      (∀ i code, refusedAt s.trunkTest es i code →
        exec .trunkWrite s = .next (s.answered p code [BitVec.ofNat 8 (i + 1)])) ∧
      ((∀ e ∈ es, s.trunkTest e = none) →
        exec .trunkWrite s = .next (((es.foldl State.putTrunk s).followUse s).answered p .done [])))) ∧
  (
  ∀ (s : State) (e : Bytes),
    let one := byteAt e
    let two := fun i => byteAt e i * 256 + byteAt e (i + 1)
    let three := fun i => byteAt e i * 65536 + byteAt e (i + 1) * 256 + byteAt e (i + 2)
    let template : ZoneTemplate :=
      ⟨decide (one 1 = 1), BitVec.ofNat 20 (three 2), BitVec.ofNat 20 (three 5), one 8, one 9⟩
    let run : Option TrunkRun := if one 2 = 1 then some ⟨two 3, two 5⟩ else none
    (e.length = 10 →
      (templateTest e = if one 0 ≤ 15 ∧ one 1 ≤ 1 ∧ three 2 < 1048576 ∧ three 5 < 1048576 ∧ one 8 ≤ 15 ∧ one 9 ≤ 7
        then none else some .range) ∧
      s.putTemplate e = { s with tables.templates := tableSet invalidTemplate s.tables.templates (one 0) template }) ∧
    (e.length = 7 →
      (s.trunkTest e = if one 0 ≤ 63 ∧ one 1 ≤ 15 ∧ one 2 ≤ 1 ∧
          (one 2 = 1 → two 3 < 32768 ∧ 1 ≤ two 5 ∧ two 5 ≤ 1024 ∧
            (s.correlator.state = .ready → two 3 + two 5 ≤ s.tables.assetCount))
        then none else some .range) ∧
      s.putTrunk e = { s with tables.trunks := tableSet none s.tables.trunks (one 0 * 16 + one 1) run })) ∧
  (
  ∀ s before : State, s.Canonical →
    let uses := fun (t : LoadedTables) n => ∃ channel < 16, tableGet none t.trunks (n * 16 + channel) ≠ none
    (s.correlator.state ≠ .ready → s.followUse before = s) ∧
    (s.correlator.state = .ready → ∃ table due, s.followUse before = { s with sources.table := table, sources.due := due } ∧
      ∀ n, let e := s.source n
        let fresh : SourceEntry :=
          { e with expected := none, lastAccepted := none, lastFrameTime := none, restoredAt := none }
        ((uses s.tables n ↔ uses before.tables n) → tableGet unusedSource table n = e) ∧
        (n < 64 → uses s.tables n → ¬ uses before.tables n → tableGet unusedSource table n = { fresh with state := .waiting }) ∧
        (n < 64 → ¬ uses s.tables n → uses before.tables n → tableGet unusedSource table n = { fresh with state := .unused })) ∧
    ∀ n, sourceUsed s.tables n = true ↔ uses s.tables n) ∧
  (
  ∀ (size : Nat) (args : Bytes), 0 < size →
    (entriesOf size args).length = args.length / size ∧
    ∀ i < args.length / size, ∃ e, (entriesOf size args)[i]? = some e ∧ e.length = size ∧
      ∀ k < size, e[k]? = args[i * size + k]?)

/-- The live tests of an ASSET WRITE entry in READY, in the order of R139: RANGE for an entry out of range or at or above the
asset count, STATE for a parent that differs, for a class not loaded and for a class of another masking attribute; any other
entry passes. In LOADING the range test is the only one (R136, R139).

The range test and the fields of an entry of 8 bytes are those of R130 and R136 at their places, 0xFFFF standing for no parent,
with the inhibit in the top bit and the field address in the low 20 bits of its last three bytes (R176). -/
def Obligations.LiveAssetEditsAreTestedInOrder : Prop :=
  (
  ∀ (s : State) (e : Bytes),
    let i := assetIndex e
    let new := assetOf e
    (assetInRange e = false → s.assetTest e = some .range) ∧
    (assetInRange e = true → s.correlator.state ≠ .ready → s.assetTest e = none) ∧
    (assetInRange e = true → s.correlator.state = .ready →
      (s.tables.assetCount ≤ i → s.assetTest e = some .range) ∧
      (i < s.tables.assetCount → new.parent ≠ (s.asset i).parent → s.assetTest e = some .state) ∧
      (i < s.tables.assetCount → new.parent = (s.asset i).parent → s.loadedClass new.cls = none →
        s.assetTest e = some .state) ∧
      ∀ c, i < s.tables.assetCount → new.parent = (s.asset i).parent → s.loadedClass new.cls = some c →
        s.assetTest e = if c.masking = (s.classOf i).masking then none else some .state)) ∧
  (
  ∀ (s : State) (e : Bytes), e.length = 8 →
    let one := byteAt e
    let two := fun i => byteAt e i * 256 + byteAt e (i + 1)
    let low := byteAt e 5 % 16 * 65536 + byteAt e 6 * 256 + byteAt e 7
    assetIndex e = two 0 ∧
    assetOf e = ⟨one 2, if two 3 = 65535 then none else some (two 3), BitVec.ofNat 20 low, decide (128 ≤ one 5), true⟩ ∧
    (assetInRange e = true ↔ two 0 < 32768 ∧ one 2 ≤ 15 ∧ (two 3 = 65535 ∨ two 3 < 32768)) ∧
    s.putAsset e = { s with tables.assets := tableSet unwrittenAsset s.tables.assets (assetIndex e) (assetOf e) })

/-! ### Record, list, storm and escalation commands -/

/-- QUERY ASSET of an asset, in READY: the reply DONE carries the Asset Table entry and every field of the record as they
stand; a HELD latch is cleared after the read when the flag asks, and nothing else changes. An index at or above the asset
count or a flag above 1 is refused RANGE (R28, R77, R176, R184).

The results stand in the order of R184 and R1, high bytes first: class, parent, field address and inhibit, then every field of
the record, an index of none as 0xFFFF, and a value or time that may be absent as a presence byte and zeros (R174, R184). -/
def Obligations.QueryAssetReadsThenClears : Prop :=
  (
  ∀ (s : State) (tag hi lo flag : Byte), s.executes [16#8, tag, hi, lo, flag] → s.correlator.state = .ready →
    let p := [16#8, tag, hi, lo, flag]
    let a := hi.toNat * 256 + lo.toNat
    let fields := assetResults (s.asset a) ++ recordResults (s.record a)
    ((s.tables.assetCount ≤ a ∨ 1 < flag.toNat) → exec .queryAsset s = .next (s.answered p .range [])) ∧
    (a < s.tables.assetCount → (flag = 0#8 ∨ flag = 1#8 ∧ (s.record a).latch = .clear) →
      exec .queryAsset s = .next (s.answered p .done fields)) ∧
    (a < s.tables.assetCount → flag = 1#8 → (s.record a).latch = .held →
      exec .queryAsset s = .next ((s.clearLatch a).answered p .done fields))) ∧
  (
  ∀ (e : AssetEntry) (r : FaultRecord),
    let one := fun x : Nat => [BitVec.ofNat 8 x]
    let two := fun x : Nat => one (x / 256) ++ one x
    let four := fun x : Nat => one (x / 16777216) ++ one (x / 65536) ++ two x
    let index := fun i : Option Nat => two (i.getD 65535)
    let flag := fun b : Bool => one (if b then 1 else 0)
    let time := fun v : Option Nat => flag v.isSome ++ four (v.getD 0)
    let status : Nat := match r.lastStatus with | none => 0 | some .ok => 1 | some .degraded => 2 | some .failed => 3
    assetResults e = one e.cls ++ index e.parent ++ one (e.address.toNat / 65536) ++ two e.address.toNat ++ flag e.inhibit ∧
    recordResults r = one (conditionCode r.condition) ++ one (severityCode r.severity) ++ one r.run ++ index r.cause
      ++ two r.dependents ++ one (if r.latch = .held then 1 else 0) ++ one status ++ one r.lastDetail
      ++ flag r.lastValue.isSome ++ two (r.lastValue.getD 0) ++ time r.lastHeard ++ flag r.lastSource.isSome
      ++ one (r.lastSource.getD 0) ++ time r.qualifiedAt ++ time r.joinedAt ++ two r.flapScore ++ four r.flapStamp
      ++ flag r.flapping ++ time r.testUntil)

/-- QUERY LIST, in READY with its arguments in range, changes nothing: from HEAD or after a cursor on the list it replies DONE
with the first `count` entries in list order that pass the filter, and end-of-list yes exactly when no further entry passes;
a cursor off the list is CURSOR_LOST with 0 entries and end-of-list no (R80, R81, R82, R83, R84, R184). A cursor at or above the
asset count, a count outside 1..13, a filter above 2 or a zone above 15 of filter ZONE is refused RANGE (R175, R176).

An entry returned carries asset index, condition, severity, cause, latch, qualified at, joined at and dependents (R83); that its
two times carry no presence byte, and read as 0 when absent, is the model's reading (log entries 11 and 29). -/
def Obligations.QueryListReturnsOnePage : Prop :=
  (
  ∀ (s : State) (tag c1 c2 count filter zone : Byte), s.executes [17#8, tag, c1, c2, count, filter, zone] →
    s.correlator.state = .ready → 1 ≤ count.toNat → count.toNat ≤ 13 → filter.toNat ≤ 2 →
    (filter = 2#8 → zone.toNat ≤ 15) →
    let p := [17#8, tag, c1, c2, count, filter, zone]
    let cursor := c1.toNat * 256 + c2.toNat
    let passes := fun a => if filter = 0#8 then true else if filter = 1#8 then (s.record a).independent
      else decide ((s.zoneLookup (s.asset a).address).1 = zone.toNat)
    let page := fun es : List Nat =>
      let all := es.filter passes
      let returned := all.take count.toNat
      byte1 returned.length ++ [if all.length ≤ count.toNat then 1#8 else 0#8] ++ returned.flatMap s.entryResults
    (cursor = 65535 → exec .queryList s = .next (s.answered p .done (page s.board))) ∧
    (cursor < s.tables.assetCount → cursor ≠ 65535 →
      (∀ before after, s.board = before ++ cursor :: after → cursor ∉ before →
        exec .queryList s = .next (s.answered p .done (page after))) ∧
      (cursor ∉ s.board → exec .queryList s = .next (s.answered p .cursorLost [0#8, 0#8])))) ∧
  (
  ∀ (s : State) (tag c1 c2 count filter zone : Byte), s.executes [17#8, tag, c1, c2, count, filter, zone] →
    s.correlator.state = .ready →
    let cursor := c1.toNat * 256 + c2.toNat
    (cursor ≠ 65535 ∧ s.tables.assetCount ≤ cursor ∨ count = 0#8 ∨ 13 < count.toNat ∨ 2 < filter.toNat ∨
      filter = 2#8 ∧ 15 < zone.toNat) →
    exec .queryList s = .next (s.answered [17#8, tag, c1, c2, count, filter, zone] .range [])) ∧
  (
  ∀ (s : State) (a : Nat),
    let one := fun x : Nat => [BitVec.ofNat 8 x]
    let two := fun x : Nat => one (x / 256) ++ one x
    let four := fun x : Nat => one (x / 16777216) ++ one (x / 65536) ++ two x
    let r := s.record a
    s.entryResults a = two a ++ one (conditionCode r.condition) ++ one (severityCode r.severity) ++ two (r.cause.getD 65535)
      ++ one (if r.latch = .held then 1 else 0) ++ four (r.qualifiedAt.getD 0) ++ four (r.joinedAt.getD 0)
      ++ two r.dependents)

/-- ACK FAULT of an asset, in READY: with latch CLEAR it is refused STATE and nothing changes; with latch HELD the latch is
cleared and the reply is DONE; an index at or above the asset count is refused RANGE (R76, R176).

With canonical memories, a latch that becomes CLEAR changes that one field of the record; a faulted record keeps its place,
and one not faulted leaves the list, the order of the others kept and any walk position naming it moved to its successor, the
entry after it on the list or none at the tail (R1, R56, R73, R75). A record off the list does not leave it. -/
def Obligations.AckFaultAndTheClearedLatch : Prop :=
  (
  ∀ (s : State) (tag hi lo : Byte), s.executes [18#8, tag, hi, lo] → s.correlator.state = .ready →
    let p := [18#8, tag, hi, lo]
    let a := hi.toNat * 256 + lo.toNat
    (s.tables.assetCount ≤ a → exec .ackFault s = .next (s.answered p .range [])) ∧
    (a < s.tables.assetCount → (s.record a).latch = .clear → exec .ackFault s = .next (s.answered p .state [])) ∧
    (a < s.tables.assetCount → (s.record a).latch = .held →
      exec .ackFault s = .next ((s.clearLatch a).answered p .done []))) ∧
  (
  ∀ (s : State) (a : Nat), s.Canonical →
    let cleared : State := s.setRecord a { s.record a with latch := .clear }
    ((s.record a).faulted = true → s.clearLatch a = cleared) ∧
    ((s.record a).faulted = false → a ∈ s.board → s.clearLatch a = { cleared with
      board := s.board.erase a
      sweep.jobs := s.sweep.jobs.map fun j =>
        { j with position := if j.position = some a then s.successor a else j.position } })) ∧
  (
  ∀ (s : State) (a : Nat),
    (a ∉ s.board → s.leave a = s) ∧
    ∀ before after, s.board = before ++ a :: after → a ∉ before →
      s.successor a = after.head? ∧
      s.leave a = { s with
        board := before ++ after
        sweep.jobs := s.sweep.jobs.map fun j => if j.position = some a then { j with position := after.head? } else j })

/-- ACK RESTORED, in READY with its filter in range: an ACK job in the queue takes the request, its filter widened to all zones
when they differ and a running walk sent back to the head of the list; without one an ACK job joins the tail, running at once
in an empty queue; a full queue without one refuses BUSY (R50, R52, R53, R78). A filter above 1, or a zone above 15 of filter one
zone, is refused RANGE (R175, R176). -/
def Obligations.AckRestoredQueuesOrMerges : Prop :=
  (
  ∀ (s : State) (tag filter zone : Byte), s.executes [19#8, tag, filter, zone] → s.correlator.state = .ready →
    filter.toNat ≤ 1 → (filter = 1#8 → zone.toNat ≤ 15) →
    let p := [19#8, tag, filter, zone]
    let asked : Option Nat := if filter = 1#8 then some zone.toNat else none
    let running : SweepJob := ⟨.ack asked, .running, s.board.head?, 0⟩
    let waiting : SweepJob := ⟨.ack asked, .waiting, none, 0⟩
    let hasAck := ∃ j ∈ s.sweep.jobs, ∃ z, j.walk = .ack z
    let merge := fun j : SweepJob => match j.walk with
      | .ack z => { j with
          walk := .ack (if z = asked then z else none)
          position := if j.state = .running then s.board.head? else j.position }
      | _ => j
    (hasAck → exec .ackRestored s = .next ({ s with sweep.jobs := s.sweep.jobs.map merge }.answered p .done [])) ∧
    (¬ hasAck → 8 ≤ s.sweep.jobs.length → exec .ackRestored s = .next (s.answered p .busy [])) ∧
    (s.sweep.jobs = [] → exec .ackRestored s = .next ({ s with sweep.jobs := [running] }.answered p .done [])) ∧
    (¬ hasAck → s.sweep.jobs.length < 8 → (∃ j, s.sweep.jobs.head? = some j ∧ j.state = .running) →
      exec .ackRestored s =
        .next ({ s with sweep.jobs := s.sweep.jobs ++ [waiting] }.answered p .done []))) ∧
  (
  ∀ (s : State) (tag filter zone : Byte), s.executes [19#8, tag, filter, zone] → s.correlator.state = .ready →
    (1 < filter.toNat ∨ filter = 1#8 ∧ 15 < zone.toNat) →
    exec .ackRestored s = .next (s.answered [19#8, tag, filter, zone] .range []))

/-- SET SERVICE OUT of an asset, in READY with canonical memories: a record OUT_OF_SERVICE is left as it is; any other leaves
its cause or the independent-fault count, becomes OUT_OF_SERVICE with run 0 and its severity kept, has its ADOPT job
cancelled, and its RELEASE job if its class is masking, and leaves the list if its latch is CLEAR; the reply is DONE (R22,
R45, R61, R66).

SET SERVICE IN of an asset, in READY with canonical memories: refused STATE unless the record is OUT_OF_SERVICE, and BUSY when
it has dependents and a full Sweep Queue holds no job for it; otherwise RELEASE is queued for its dependents, the record
becomes UNKNOWN with run 0 and severity none, leaves the list if its latch is CLEAR, and the reply is DONE (R24, R50, R184).

An index at or above the asset count, and a direction above 1, is refused RANGE (R175, R176); that the row of direction OUT
executes a direction above 1 is the model's choice (log entry 5). -/
def Obligations.SetServiceTakesOutAndReturns : Prop :=
  (
  ∀ (s : State) (tag hi lo : Byte), s.executes [20#8, tag, hi, lo, 0#8] → s.correlator.state = .ready →
    s.Canonical → hi.toNat * 256 + lo.toNat < s.tables.assetCount →
    let p := [20#8, tag, hi, lo, 0#8]
    let a := hi.toNat * 256 + lo.toNat
    let freed : State := if (s.record a).faulted = true ∧ (s.record a).cause = none then
        { s with correlator.independentCount := s.correlator.independentCount - 1 }
      else s.unattribute a
    let out : State := (freed.setRecord a { freed.record a with condition := .outOfService, run := 0 }).endAdopt a
    let settled : State := if (s.classOf a).masking = true then out.cancelRelease a else out
    ((s.record a).condition = .outOfService → exec .setServiceOut s = .next (s.answered p .done [])) ∧
    ((s.record a).condition ≠ .outOfService → (s.record a).latch = .held →
      exec .setServiceOut s = .next (settled.answered p .done [])) ∧
    ((s.record a).condition ≠ .outOfService → (s.record a).latch = .clear →
      exec .setServiceOut s = .next ((settled.leave a).answered p .done []))) ∧
  (
  ∀ (s : State) (tag hi lo : Byte), s.executes [20#8, tag, hi, lo, 1#8] → s.correlator.state = .ready →
    s.Canonical → hi.toNat * 256 + lo.toNat < s.tables.assetCount →
    let p := [20#8, tag, hi, lo, 1#8]
    let a := hi.toNat * 256 + lo.toNat
    let r := s.record a
    let noPlace := 8 ≤ s.sweep.jobs.length ∧ ∀ j ∈ s.sweep.jobs, j.walk ≠ .adopt a ∧ j.walk ≠ .release a
    let queued : State := if r.dependents = 0 then s else s.queueRelease a
    let back : State := queued.setRecord a { r with condition := .unknown, run := 0, severity := .none }
    (r.condition ≠ .outOfService → exec .setServiceIn s = .next (s.answered p .state [])) ∧
    (r.condition = .outOfService → 0 < r.dependents → noPlace → exec .setServiceIn s = .next (s.answered p .busy [])) ∧
    (r.condition = .outOfService → (r.dependents = 0 ∨ ¬ noPlace) → r.latch = .held →
      exec .setServiceIn s = .next (back.answered p .done [])) ∧
    (r.condition = .outOfService → (r.dependents = 0 ∨ ¬ noPlace) → r.latch = .clear →
      exec .setServiceIn s = .next ((back.leave a).answered p .done []))) ∧
  (
  ∀ (s : State) (tag hi lo direction : Byte), s.executes [20#8, tag, hi, lo, direction] → s.correlator.state = .ready →
    let p := [20#8, tag, hi, lo, direction]
    (s.tables.assetCount ≤ hi.toNat * 256 + lo.toNat → direction = 0#8 →
      exec .setServiceOut s = .next (s.answered p .range [])) ∧
    (s.tables.assetCount ≤ hi.toNat * 256 + lo.toNat → direction = 1#8 →
      exec .setServiceIn s = .next (s.answered p .range [])) ∧
    (1 < direction.toNat → exec .setServiceOut s = .next (s.answered p .range [])))

/-- STORM: ON with a floor of 0..31 makes the state STORM_MANUAL with that floor from every state; OFF from a storm makes it
CALM, keeping the manual floor and the buckets, and raises a HELD escalation; OFF from CALM changes nothing. Each replies DONE,
and no STORM notice is requested. An action above 1, or a floor above 31 with ON, is refused RANGE (R113, R114, R122, R123,
R176; what an IDLE D-port transmitter is offered and when, log entry 12; that the row of STORM OFF executes, and refuses, an
action above 1, log entry 5). -/
def Obligations.StormCommandsSetTheStormState : Prop :=
  ∀ (s : State) (tag action floor : Byte), s.executes [24#8, tag, action, floor] →
    let p := [24#8, tag, action, floor]
    let manual : State := { s with storm.state := .manual, storm.manualFloor := floor.toNat }
    let calm : State := { s with storm.state := .calm }.offerDispatch
    (action = 1#8 → floor.toNat ≤ 31 → exec .stormOn s = .next (manual.offerDispatch.answered p .done [])) ∧
    (action = 1#8 → 31 < floor.toNat → exec .stormOn s = .next (s.answered p .range [])) ∧
    (action = 0#8 → s.storm.state = .calm → exec .stormOff s = .next (s.answered p .done [])) ∧
    (action = 0#8 → s.storm.state ≠ .calm → (∀ c, s.escalation ≠ .held c) →
      exec .stormOff s = .next (calm.answered p .done [])) ∧
    (∀ c, action = 0#8 → s.storm.state ≠ .calm → s.escalation = .held c →
      let raised : State := { calm with escalation := .raised c }
      exec .stormOff s = .next ((raised.arrive
        ⟨.escalation, .asset c.asset, (s.record c.asset).condition, c.severity, (s.record c.asset).cause,
          (s.record c.asset).lastDetail, (s.zoneLookup c.address).1, 31, s.agent.time, c.faultCount,
          (s.record c.asset).lastValue, c.address⟩).answered p .done [])) ∧
    (1 < action.toNat → exec .stormOff s = .next (s.answered p .range []))

/-- ESC ARM carries no argument: in every correlator state a DISARMED unit becomes ARMED and an ARMED one stays, with reply
DONE; in RAISED or HELD it is refused STATE with the state, the context and ALERT unchanged; it requests no notice. -/
def Obligations.EscArmArmsTheUnit : Prop :=
  ∀ (s : State) (tag : Byte), s.executes [25#8, tag] →
    ((s.escalation = .disarmed ∨ s.escalation = .armed) →
      exec .escArm s = .next ({ s with escalation := .armed }.answered [25#8, tag] .done [])) ∧
    (∀ c, (s.escalation = .raised c ∨ s.escalation = .held c) →
      exec .escArm s = .next (s.answered [25#8, tag] .state []) ∧ ∀ t, exec .escArm s = .next t →
        t.escalation = s.escalation ∧ t.alert = s.alert)

/-- ESC ACK: in DISARMED or ARMED it is refused STATE and nothing changes; in RAISED or HELD the context is discarded, the
state becomes ARMED for rearm yes and DISARMED for rearm no, ALERT is deasserted, no notice is requested and the reply is
DONE; a rearm above 1 is refused RANGE (R121, R124, R175). -/
def Obligations.EscAckDiscardsTheContext : Prop :=
  ∀ (s : State) (tag rearm : Byte), s.executes [26#8, tag, rearm] →
    let p := [26#8, tag, rearm]
    let acked : State := { s with escalation := if rearm = 1#8 then .armed else .disarmed }
    ((s.escalation = .disarmed ∨ s.escalation = .armed) → exec .escAck s = .next (s.answered p .state [])) ∧
    (∀ c, (s.escalation = .raised c ∨ s.escalation = .held c) →
      (1 < rearm.toNat → exec .escAck s = .next (s.answered p .range [])) ∧
      (rearm.toNat ≤ 1 → exec .escAck s = .next (acked.answered p .done []) ∧
        ∀ t, exec .escAck s = .next t → t.alert = false))

/-! ### The serial flash -/

/-- FLASH ERASE begins at block 0 and takes time; FLASH_ERASE_BLOCK makes the 128 bytes of the block in progress 0xFF in one
action, every other byte kept, and goes on, or after the last block ends the command with DONE (R173, R186).

FLASH WRITE of 128 bytes: an offset that is not a multiple of 128 below 1,048,576 is refused RANGE, a block holding a byte
other than 0xFF STATE; otherwise the write takes time, and FLASH_WRITE_END stores the bytes at the block's place in one action,
every other byte kept, and replies DONE (R173, R175, R176, R186). -/
def Obligations.FlashErasesAndWritesBlocks : Prop :=
  (
  ∀ s : State,
    (∀ tag : Byte, s.executes [30#8, tag] →
      exec .flashErase s = .next { s with agent.long := some (.erasing 0) }) ∧
    (∀ block, s.inReset = false → s.agent.long = some (.erasing block) → ∃ flash : Memory,
      (∀ i, tableGet 0xFF#8 flash i =
        if block * 128 ≤ i ∧ i < block * 128 + 128 then 0xFF#8 else tableGet 0xFF#8 s.flash i) ∧
      (block + 1 < 8192 → exec .flashEraseBlock s =
        .next { s with flash := flash, agent.long := some (.erasing (block + 1)) }) ∧
      (8192 ≤ block + 1 → ∀ p, s.agent.state = .executing p → exec .flashEraseBlock s =
        .next ({ s with flash := flash, agent.long := none }.answered p .done [])))) ∧
  (
  ∀ s : State,
    (∀ (tag a b c d : Byte) (data : Bytes), data.length = 128 → s.executes (31#8 :: tag :: a :: b :: c :: d :: data) →
      let p := 31#8 :: tag :: a :: b :: c :: d :: data
      let offset := a.toNat * 16777216 + b.toNat * 65536 + c.toNat * 256 + d.toNat
      let blank := ∀ k < 128, tableGet 0xFF#8 s.flash (offset + k) = 0xFF#8
      ((offset % 128 ≠ 0 ∨ 1048576 ≤ offset) → exec .flashWrite s = .next (s.answered p .range [])) ∧
      (offset % 128 = 0 → offset < 1048576 → ¬ blank → exec .flashWrite s = .next (s.answered p .state [])) ∧
      (offset % 128 = 0 → offset < 1048576 → blank →
        exec .flashWrite s = .next { s with agent.long := some (.writing (offset / 128) data) })) ∧
    (∀ block data p, s.inReset = false → s.agent.long = some (.writing block data) → s.agent.state = .executing p →
      ∃ flash : Memory, exec .flashWriteEnd s = .next ({ s with flash := flash, agent.long := none }.answered p .done []) ∧
        (Memory.wf s.flash → ∀ i, tableGet 0xFF#8 flash i =
          if block * 128 ≤ i ∧ i < block * 128 + data.length then data.getD (i - block * 128) 0xFF#8
          else tableGet 0xFF#8 s.flash i)))

/-! ### The correlator's operations -/

/-- The ancestor walk finds the nearest masking-faulted ancestor within 4 parent links: for a chain of parents a₁, a₂, …, the
first masking-faulted one at link 1 to 4; a walk that meets a parent of none first, or none masking-faulted within 4 links,
finds nothing, whatever lies further up (R3, R14).

The walk of a RELEASE visit steps over the root, whatever its standing: the root counts as a link, and the first masking-faulted
ancestor other than it within the 4 links is found (R48).

Masking-faulted is a class that masks and a condition of FAULT, RECOVERING, SILENT or OUT_OF_SERVICE; independent is faulted,
FAULT, RECOVERING or SILENT, with no cause (R3). -/
def Obligations.AncestorWalkFindsTheNearest : Prop :=
  (
  ∀ (s : State) (a : Nat) (chain : List Nat), chain.length ≤ 4 →
    (∀ k p : Nat, chain[k]? = some p → (s.asset (if k = 0 then a else chain.getD (k - 1) 0)).parent = some p) →
    (∀ k p : Nat, chain[k]? = some p → (∀ j < k, ∀ q : Nat, chain[j]? = some q → s.maskingFaulted q = false) →
      s.maskingFaulted p = true → s.ancestor a = some p) ∧
    ((∀ p ∈ chain, s.maskingFaulted p = false) →
      (chain.length = 4 ∨ (s.asset (chain.getLast?.getD a)).parent = none) → s.ancestor a = none) ∧
    ∀ root : Nat,
      (∀ k p : Nat, chain[k]? = some p → (∀ j < k, ∀ q : Nat, chain[j]? = some q → q = root ∨ s.maskingFaulted q = false) →
        s.maskingFaulted p = true → p ≠ root → s.ancestorExcluding root a = some p) ∧
      ((∀ p ∈ chain, p = root ∨ s.maskingFaulted p = false) →
        (chain.length = 4 ∨ (s.asset (chain.getLast?.getD a)).parent = none) → s.ancestorExcluding root a = none)) ∧
  (
  ∀ (s : State) (a : Nat),
    let r := s.record a
    let faulted := r.condition = .fault ∨ r.condition = .recovering ∨ r.condition = .silent
    (r.faulted = true ↔ faulted) ∧ (r.independent = true ↔ faulted ∧ r.cause = none) ∧
    (s.maskingFaulted a = true ↔ (s.classOf a).masking = true ∧ (faulted ∨ r.condition = .outOfService)))

/-- A qualification sets condition, run 0, severity and qualified at, cancels the record's RELEASE job if its class is masking,
and walks for a cause. Under a root the record is attributed and joins the list, with nothing requested, offered or counted. With
none its latch is HELD, the count rises, its notice is requested, the storm and the escalation are offered it in that order, it
joins the list, and ADOPT is requested for a masking class with a window above 0 (R13, R15, R16, R66; the join before the ADOPT
request, log entry 9).

A record off the list joins it at the tail, its joined at becoming now, and one on the list keeps its place and its joined at, so
that nothing changes (R71, R72). -/
def Obligations.QualificationTakesItsOutcome : Prop :=
  (
  ∀ (s : State) (a : Nat) (condition : Condition) (severity : Severity) (kind : NoticeKind),
    (condition = .fault ∨ condition = .silent) →
    let entered : State := s.setRecord a
      { s.record a with condition := condition, run := 0, severity := severity, qualifiedAt := some s.agent.time }
    let freed : State := if (s.classOf a).masking = true then entered.cancelRelease a else entered
    (∀ root, freed.ancestor a = some root →
      s.qualify a condition severity kind = (freed.attribute a root).join a) ∧
    (freed.ancestor a = none →
      let held : State := freed.setRecord a { freed.record a with latch := .held }
      let counted : State := { held with correlator.independentCount := s.correlator.independentCount + 1 }
      let told := counted.requestAsset kind a condition severity none (s.record a).dependents
      let joined := (told.offerStorm.offerEscalation kind a).join a
      s.qualify a condition severity kind =
        if (s.classOf a).masking = true ∧ 0 < (s.classOf a).adoptionWindow then joined.requestAdopt a else joined)) ∧
  (
  ∀ (s : State) (a : Nat),
    (a ∈ s.board → s.join a = s) ∧
    (a ∉ s.board →
      s.join a = { s.setRecord a { s.record a with joinedAt := some s.agent.time } with board := s.board ++ [a] }))

/-- An item of an asset: the record is refreshed first; while a test holdoff runs a non-OK item raises the test items of its
source and ends there, and an OK item goes on with test until kept; with none running test until becomes none and the item
goes on. A holdoff runs while now is less than test until, and one that ends at the greatest time ends there too, by the model's
choice of R8 and R26 over a sentence after R29 (log entry 30). Then OUT_OF_SERVICE ends the item; any other record is scored for
flap, FLAP or FLAP_END is requested with its condition, severity, cause and dependents when the mark changed, and the condition
machine acts (R7, R8, R9, R10, R26, R37).

The condition machine on a record that does not complete a count: an OK item makes UNKNOWN, NORMAL and SUSPECT NORMAL with run
0 and starts or raises the run of RECOVERING below P; a non-OK item starts or raises the run of SUSPECT below Q. No other field
of the record and nothing else changes (R11, R18).

The condition machine at a completed count and on a standing fault: a non-OK item that brings the run to Q qualifies the record
with the item's severity and OUT; one in FAULT, RECOVERING or SILENT gives FAULT, run 0 and its severity, and requests CHANGED
for an independent record whose severity differs or whose silence it ends; an OK item that brings the run to P, or finds it
there, attempts a restore from RECOVERING at run P (R11, R12, R13, R18). -/
def Obligations.ConditionMachineFollowsTheTable : Prop :=
  (
  ∀ (s : State) (a n : Nat) (i : Item) (status : Status),
    let heard : State := s.setRecord a { s.record a with
      lastHeard := some s.agent.time, lastSource := some n, lastDetail := i.detail, lastValue := i.value }
    let running := ∃ t, (heard.record a).testUntil = some t ∧ s.agent.time < t
    let e := s.source n
    (running → status ≠ .ok → s.processItem a i status n = { heard with
      sources.table := tableSet unusedSource s.sources.table n { e with testItems := min 65535 (e.testItems + 1) } }) ∧
    (running → status = .ok → s.processItem a i status n = heard.judgeItem a status) ∧
    (¬ running → s.processItem a i status n =
      (heard.setRecord a { heard.record a with testUntil := none }).judgeItem a status)) ∧
  (
  ∀ (s : State) (a : Nat) (status : Status),
    let before := (s.record a).flapping
    let scored : State := s.setRecord a (scoreRecord (s.classOf a) s.agent.time status (s.record a))
    let r := scored.record a
    let told (kind : NoticeKind) : State := scored.requestAsset kind a r.condition r.severity r.cause r.dependents
    ((s.record a).condition = .outOfService → s.judgeItem a status = s) ∧
    ((s.record a).condition ≠ .outOfService →
      (r.flapping = before → s.judgeItem a status = scored.runMachine a status) ∧
      (before = false → r.flapping = true → s.judgeItem a status = (told .flap).runMachine a status) ∧
      (before = true → r.flapping = false → s.judgeItem a status = (told .flapEnd).runMachine a status))) ∧
  (
  ∀ (s : State) (a : Nat) (status : Status),
    let r := s.record a
    let q := (s.classOf a).qualifyCount
    let p := (s.classOf a).restoreCount
    let put (condition : Condition) (run : Nat) : State := s.setRecord a { r with condition := condition, run := run }
    (status = .ok →
      ((r.condition = .unknown ∨ r.condition = .normal ∨ r.condition = .suspect) → s.runMachine a status = put .normal 0) ∧
      ((r.condition = .fault ∨ r.condition = .silent) → 1 < p → s.runMachine a status = put .recovering 1) ∧
      (r.condition = .recovering → r.run + 1 < p → s.runMachine a status = put .recovering (r.run + 1))) ∧
    (status ≠ .ok →
      ((r.condition = .unknown ∨ r.condition = .normal) → 1 < q → s.runMachine a status = put .suspect 1) ∧
      (r.condition = .suspect → r.run + 1 < q → s.runMachine a status = put .suspect (r.run + 1)))) ∧
  (
  ∀ (s : State) (a : Nat) (status : Status),
    let r := s.record a
    let q := (s.classOf a).qualifyCount
    let p := (s.classOf a).restoreCount
    let severity : Severity := if status = .degraded then .minor else .major
    let deepened : State := s.setRecord a { r with condition := .fault, run := 0, severity := severity }
    (status ≠ .ok →
      ((r.condition = .unknown ∨ r.condition = .normal) → q ≤ 1 →
        s.runMachine a status = s.qualify a .fault severity .out) ∧
      (r.condition = .suspect → q ≤ r.run + 1 → s.runMachine a status = s.qualify a .fault severity .out) ∧
      (r.faulted = true →
        (r.cause = none → (r.severity ≠ severity ∨ r.condition = .silent) →
          s.runMachine a status = deepened.requestAsset .changed a .fault severity none r.dependents) ∧
        ((r.cause ≠ none ∨ r.severity = severity ∧ r.condition ≠ .silent) → s.runMachine a status = deepened))) ∧
    (status = .ok →
      ((r.condition = .fault ∨ r.condition = .silent) → p = 1 →
        s.runMachine a status = (s.setRecord a { r with condition := .recovering, run := 1 }).attemptRestore a) ∧
      (r.condition = .recovering → p ≤ r.run + 1 →
        s.runMachine a status = (s.setRecord a { r with condition := .recovering, run := p }).attemptRestore a)))

/-- A restore with dependents, no job for the record and a full Sweep Queue is held with nothing changed. One of an
independent record with no dependents and no job makes it NORMAL with run 0 and severity none, lowers the count, requests
RESTORED with the ended severity, and removes a record whose latch is CLEAR from the list; one of a suppressed record frees it
from its cause and requests nothing (R19, R20, R21, R45).

One that proceeds with dependents queues RELEASE once the record is NORMAL and before it is settled, RESTORED carrying the
dependents as its count; one with none cancels a queued ADOPT job last (R19, R20, R61; that ADOPTED is requested once the
record is NORMAL, log entry 8).

The Sweep Queue's own operations: a job that joins or leaves lets the first job start, RUNNING at the head of the list with
tally 0 (R53); ADOPT is merged, dropped and counted in a full queue, or joins (R50, R51); RELEASE takes the place of the
root's ADOPT job, is merged, or joins (R50); a RELEASE job that is cancelled leaves (R66); an ADOPT job that ends requests
ADOPTED with its tally as count when that is above 0 (R60, R61). -/
def Obligations.RestoreSettlesTheRecord : Prop :=
  (
  ∀ (s : State) (a : Nat),
    let r := s.record a
    let idle := ∀ j ∈ s.sweep.jobs, j.walk ≠ .adopt a ∧ j.walk ≠ .release a
    let normal : State := s.setRecord a { r with condition := .normal, run := 0, severity := .none }
    let told : State := ({ normal with correlator.independentCount := s.correlator.independentCount - 1 }).requestAsset
      .restored a .normal r.severity none 0
    let freed : State := normal.unattribute a
    (0 < r.dependents → idle → 8 ≤ s.sweep.jobs.length → s.attemptRestore a = s) ∧
    (r.dependents = 0 → idle → r.cause = none →
      (r.latch = .held → s.attemptRestore a = told) ∧ (r.latch = .clear → s.attemptRestore a = told.leave a)) ∧
    (r.dependents = 0 → idle → r.cause ≠ none →
      (r.latch = .held → s.attemptRestore a = freed) ∧ (r.latch = .clear → s.attemptRestore a = freed.leave a))) ∧
  (
  ∀ (s : State) (a : Nat), s.Canonical →
    let r := s.record a
    let noPlace := 8 ≤ s.sweep.jobs.length ∧ ∀ j ∈ s.sweep.jobs, j.walk ≠ .adopt a ∧ j.walk ≠ .release a
    let normal : State := s.setRecord a { r with condition := .normal, run := 0, severity := .none }
    let settled (t : State) : State :=
      if r.cause = none then
        ({ t with correlator.independentCount := t.correlator.independentCount - 1 }).requestAsset
          .restored a .normal r.severity none r.dependents
      else t.unattribute a
    let listed (t : State) : State := if r.latch = .held then t else t.leave a
    (0 < r.dependents → ¬ noPlace → s.attemptRestore a = listed (settled (normal.queueRelease a))) ∧
    (r.dependents = 0 → s.attemptRestore a = (listed (settled normal)).endAdopt a)) ∧
  (
  ∀ (s : State) (root : Nat) (w : Walk),
    let started (js : List SweepJob) : State := { s with sweep.jobs := match js with
      | [] => []
      | j :: rest => (if j.state = .waiting then ⟨j.walk, .running, s.board.head?, 0⟩ else j) :: rest }
    let joined (w : Walk) : State := started (s.sweep.jobs ++ [⟨w, .waiting, none, 0⟩])
    let queued (w : Walk) := ∃ j ∈ s.sweep.jobs, j.walk = w
    s.joinJob w = joined w ∧
    s.removeJob w = started (s.sweep.jobs.filter fun j => decide (j.walk ≠ w)) ∧
    (queued (.adopt root) → s.requestAdopt root = s) ∧
    (¬ queued (.adopt root) → 8 ≤ s.sweep.jobs.length →
      s.requestAdopt root = { s with sweep.adoptDrops := min 65535 (s.sweep.adoptDrops + 1) }) ∧
    (¬ queued (.adopt root) → s.sweep.jobs.length < 8 → s.requestAdopt root = joined (.adopt root)) ∧
    (queued (.adopt root) → s.queueRelease root = (s.endAdopt root).joinJob (.release root)) ∧
    (¬ queued (.adopt root) → queued (.release root) → s.queueRelease root = s) ∧
    (¬ queued (.adopt root) → ¬ queued (.release root) → s.queueRelease root = joined (.release root)) ∧
    (queued (.release root) → s.cancelRelease root = s.removeJob (.release root)) ∧
    (¬ queued (.release root) → s.cancelRelease root = s) ∧
    (¬ queued (.adopt root) → s.endAdopt root = s) ∧
    ∀ before j after, s.sweep.jobs = before ++ j :: after → j.walk = .adopt root →
      (∀ i ∈ before ++ after, i.walk ≠ .adopt root) →
      let removed : State := started (before ++ after)
      (j.tally = 0 → s.endAdopt root = removed) ∧
      (0 < j.tally → s.endAdopt root = removed.requestAsset .adopted root (s.record root).condition
        (s.record root).severity (s.record root).cause j.tally))

/-- An adoption sets the entry's cause to the root and raises the root's dependents, clears the entry's latch, withdraws its
condition-family and flap-family notices, lowers the independent-fault count and raises the running job's tally; every other
record, the list and every other field are unchanged (R45, R59, R106). -/
def Obligations.AdoptionAttributesTheEntry : Prop :=
  ∀ (s : State) (root e : Nat) (j : SweepJob) (rest : List SweepJob), s.sweep.jobs = j :: rest → e ≠ root →
    s.Canonical → ∃ records,
    s.adopt root e = { s with
      correlator.records := records
      correlator.independentCount := s.correlator.independentCount - 1
      notices.entries := s.notices.entries.filter fun n =>
        !(decide (n.subject = .asset e) && (decide (n.kind.family = .condition) || decide (n.kind.family = .flap)))
      sweep.jobs := { j with tally := j.tally + 1 } :: rest } ∧
    tableGet clearRecord records e = { s.record e with cause := some root, latch := .clear } ∧
    tableGet clearRecord records root = { s.record root with dependents := (s.record root).dependents + 1 } ∧
    ∀ x, x ≠ e → x ≠ root → tableGet clearRecord records x = s.record x

/-- Decay comes first: with n whole half-lives from the stamp to now, 16 or more make the score 0 and the stamp now, and fewer
divide the score by 2 to the power n, rounded down, and advance the stamp by n × H, which leaves it no later than now, if it was
not, and less than H behind (R35).

Flap scoring of an item: the decayed score gains W, stopping at 65,535, when the last status is present and of the other
class; the mark is set at flap-on or above and cleared at flap-off or below; last status becomes the item's, and every other
field of the record is kept (R10, R35, R36, R37). -/
def Obligations.FlapScoreDecaysAlternatesAndMarks : Prop :=
  (
  ∀ h score stamp now : Nat, 1 ≤ h →
    let n := (now - stamp) / h
    (16 ≤ n → flapDecay h score stamp now = (0, now)) ∧
    (n < 16 → flapDecay h score stamp now = (score / 2 ^ n, stamp + n * h) ∧
      (stamp ≤ now → stamp + n * h ≤ now ∧ now - (stamp + n * h) < h))) ∧
  (
  ∀ (c : ClassEntry) (now : Nat) (status : Status) (r : FaultRecord),
    let decayed := flapDecay c.halfLife r.flapScore r.flapStamp now
    let alternation := ∃ l, r.lastStatus = some l ∧ ¬ (l = .ok ↔ status = .ok)
    ∃ score,
      (alternation → score = min 65535 (decayed.1 + c.flapWeight)) ∧ (¬ alternation → score = decayed.1) ∧
      scoreRecord c now status r = { r with
        flapScore := score
        flapStamp := decayed.2
        lastStatus := some status
        flapping := if r.flapping = true then decide (c.flapOff < score) else decide (c.flapOn ≤ score) })

/-- The priority of a notice about an asset is the class's base priority for MAJOR, and for MINOR the base priority minus the
minor drop, 0 if that would be below 0; the boost is added, and the result stops at 31, so it lies in 0..31. -/
def Obligations.AssetPriorityAddsDropAndBoost : Prop :=
  ∀ (c : ClassEntry) (boost : Nat),
    assetPriority c boost .major = min 31 (c.basePriority + boost) ∧
    (c.minorDrop ≤ c.basePriority → assetPriority c boost .minor = min 31 (c.basePriority - c.minorDrop + boost)) ∧
    (c.basePriority < c.minorDrop → assetPriority c boost .minor = min 31 boost) ∧
    ∀ severity, assetPriority c boost severity ≤ 31

/-- A storm offer counts the qualification in the bucket of its ten-second period, a bucket of another period restarting at that
period with count 1 and every other bucket unchanged; the rate, the sum over the buckets whose period lies in k − 5..k, enters
STORM_AUTO from CALM when the trigger is above 0 and reached, with a STORM notice of the floor and the rate (R41, R42, R99,
R112).

Only an ARMED unit tests an offer: one of an escalating class with inhibit no and a priority at or above the escalation
floor is captured, and the unit is RAISED with an ESCALATION notice in CALM and HELD in a storm; any other offer, and every
offer in another state, changes nothing (R117, R118, R119, R122, R123). That the context reads an absent qualified at as 0 is the
model's choice (log entry 29). -/
def Obligations.QualificationOffersAreTaken : Prop :=
  (
  ∀ s : State,
    let k := s.agent.time / 10
    let old := tableGet emptyBucket s.storm.buckets (k % 6)
    let buckets := countQualification s.storm.buckets k
    let counted : State := { s with storm.buckets := buckets }
    let rate := ((List.range 6).map fun i =>
      let b := tableGet emptyBucket buckets i
      if k - 5 ≤ b.period ∧ b.period ≤ k then b.count else 0).sum
    let trigger := s.agent.config.stormTrigger
    tableGet emptyBucket buckets (k % 6) = ⟨k, if old.period = k then min 4095 (old.count + 1) else 1⟩ ∧
    (∀ i, i ≠ k % 6 → tableGet emptyBucket buckets i = tableGet emptyBucket s.storm.buckets i) ∧
    ((s.storm.state ≠ .calm ∨ trigger = 0 ∨ rate < trigger) → s.offerStorm = counted) ∧
    (s.storm.state = .calm → 0 < trigger → trigger ≤ rate →
      s.offerStorm = ({ counted with storm.state := .auto }.arrive
        ⟨.storm, .storm, .unknown, .none, none, s.agent.config.stormFloor, 0, 31, s.agent.time, 1, some rate, 0#20⟩))) ∧
  (
  ∀ (s : State) (kind : NoticeKind) (a : Nat),
    let c : EscalationContext := ⟨a, (s.asset a).address, (s.asset a).cls, (s.record a).severity,
      assetPriority (s.classOf a) (s.zoneLookup (s.asset a).address).2
        (if kind = .silent ∨ (s.record a).severity = .none then .major else (s.record a).severity),
      (s.record a).qualifiedAt.getD 0, s.correlator.independentCount⟩
    let escalating := (s.classOf a).escalate = true ∧ (s.asset a).inhibit = false ∧
      s.agent.config.escalationFloor ≤ c.priority
    (s.escalation ≠ .armed → s.offerEscalation kind a = s) ∧
    (s.escalation = .armed → ¬ escalating → s.offerEscalation kind a = s) ∧
    (s.escalation = .armed → escalating → s.storm.state ≠ .calm →
      s.offerEscalation kind a = { s with escalation := .held c }) ∧
    (s.escalation = .armed → escalating → s.storm.state = .calm →
      s.offerEscalation kind a = ({ s with escalation := .raised c }.arrive
        ⟨.escalation, .asset a, (s.record a).condition, c.severity, (s.record a).cause, (s.record a).lastDetail,
          (s.zoneLookup c.address).1, 31, s.agent.time, c.faultCount, (s.record a).lastValue, c.address⟩)))

/-! ### The Notice Queue -/

/-- A merged entry takes the kind of the merge table, the higher priority, the count of its family and everything else of the
request: RESTORED into OUT, SILENT, UNMASKED or TRANSIENT gives TRANSIENT, and any other merge the requested kind; ADOPTED counts
are summed, SOURCE, LINK and STORM counts rise by one, both stopping at 65,535, and any other count is the request's (R101, R102,
R103). That FLAP into FLAP and FLAP_END into FLAP_END, for which R102 has no row, give the requested kind is the model's choice
(log entry 33). -/
def Obligations.MergedNoticeFollowsTheTables : Prop :=
  ∀ e n : Notice,
    let k := n.kind
    mergeNotice e n = { n with
      kind :=
        if k = .restored ∧ (e.kind = .out ∨ e.kind = .silent ∨ e.kind = .unmasked ∨ e.kind = .transient) then .transient
        else k
      priority := max e.priority n.priority
      count :=
        if k = .adopted then min 65535 (e.count + n.count)
        else if k = .sourceSilent ∨ k = .sourceBack ∨ k = .linkDown ∨ k = .linkUp ∨ k = .storm then
          min 65535 (e.count + 1)
        else n.count }

/-- A request that arrives at the Notice Queue merges into the entry of its subject and family, in its place, full or not;
with none it is admitted as the youngest while fewer than 256 entries wait; at 256 a request above the lowest priority evicts
the youngest entry of that priority, counted, and any other is dropped and counted (R100, R101, R104, R105).

A request for an asset notice is dropped, nothing changed, when the mask of the asset's class that covers its kind is off, or
when the record is flapping and its kind is OUT, RESTORED, CHANGED or UNMASKED (R96, R97). Any other is built with the
condition, severity, cause and count of the request, the record's last detail and last value, the asset's field address and
its zone, now as event time, and the priority of R38 with MAJOR for SILENT and for severity none (R39, R98), and arrives in
the same action; an IDLE D-port transmitter is offered the head (R100, R168).

The zone and boost of an address are those of the lowest-numbered valid template that agrees with it in every position its
mask fixes, 0 and 0 when none does and while LOADING or VALIDATING (R133, R134). -/
def Obligations.ArrivalMergesAdmitsOrDrops : Prop :=
  (
  ∀ (n : Notice) (q : NoticeQueue), n.priority ≤ 31 →
    let same := fun e : Notice => e.subject = n.subject ∧ e.kind.family = n.kind.family
    (∀ before e after, q.entries = before ++ e :: after → (∀ x ∈ before, ¬ same x) → same e →
      arriveAt n q = { q with entries := before ++ mergeNotice e n :: after }) ∧
    ((∀ x ∈ q.entries, ¬ same x) →
      (q.entries.length < 256 → arriveAt n q = { q with entries := q.entries ++ [n] }) ∧
      (256 ≤ q.entries.length → (∀ x ∈ q.entries, n.priority ≤ x.priority) →
        arriveAt n q = { q with dropped := min 65535 (q.dropped + 1) }) ∧
      (∀ before e after, q.entries = before ++ e :: after → 256 ≤ q.entries.length → e.priority < n.priority →
        (∀ x ∈ q.entries, e.priority ≤ x.priority) → (∀ x ∈ after, x.priority ≠ e.priority) →
        arriveAt n q = { q with entries := before ++ after ++ [n], evicted := min 65535 (q.evicted + 1) }))) ∧
  (
  ∀ (s : State) (kind : NoticeKind) (a : Nat) (condition : Condition) (severity : Severity) (cause : Option Nat)
      (count : Nat),
    let c := s.classOf a
    let r := s.record a
    let masked := (kind = .out ∨ kind = .silent ∨ kind = .unmasked) ∧ c.riseMask = false ∨
      kind = .restored ∧ c.fallMask = false ∨ kind = .changed ∧ c.changeMask = false ∨
      (kind = .flap ∨ kind = .flapEnd) ∧ c.flapMask = false
    let held := r.flapping = true ∧ (kind = .out ∨ kind = .restored ∨ kind = .changed ∨ kind = .unmasked)
    let place := s.zoneLookup (s.asset a).address
    let n : Notice := ⟨kind, .asset a, condition, severity, cause, r.lastDetail, place.1,
      assetPriority c place.2 (if kind = .silent ∨ severity = .none then .major else severity), s.agent.time, count,
      r.lastValue, (s.asset a).address⟩
    let arrived : State := { s with notices := arriveAt n s.notices }
    ((masked ∨ held) → s.requestAsset kind a condition severity cause count = s) ∧
    (¬ masked → ¬ held →
      (s.dport.sending ≠ none → s.requestAsset kind a condition severity cause count = arrived) ∧
      (s.dport.sending = none → s.requestAsset kind a condition severity cause count = arrived.choose))) ∧
  (
  ∀ (s : State) (address : FieldAddress),
    let closed := s.correlator.state = .loading ∨ s.correlator.state = .validating
    let template := fun k => tableGet invalidTemplate s.tables.templates k
    let fits := fun k => (template k).valid = true ∧ address &&& (template k).mask = (template k).base &&& (template k).mask
    (closed → s.zoneLookup address = (0, 0)) ∧
    (¬ closed → (∀ k < 16, ¬ fits k) → s.zoneLookup address = (0, 0)) ∧
    ∀ k, ¬ closed → k < 16 → fits k → (∀ i < k, ¬ fits i) → s.zoneLookup address = ((template k).zone, (template k).boost))

/-- The head of the Notice Queue is the entry of the highest priority and, among those, the oldest (R107); it is presented
when its priority reaches the current floor or is 31: 0 in CALM, the configured floor in STORM_AUTO, the manual floor in
STORM_MANUAL (R108). An empty queue has no head and presents nothing. -/
def Obligations.HeadIsTheMostUrgentThenOldest : Prop :=
  (
  ∀ (s : State) (before after : List Notice) (n : Notice), s.notices.entries = before ++ n :: after →
    (∀ x ∈ before, x.priority < n.priority) → (∀ x ∈ after, x.priority ≤ n.priority) →
    let floor := match s.storm.state with
      | .calm => 0 | .auto => s.agent.config.stormFloor | .manual => s.storm.manualFloor
    s.floor = floor ∧ queueHead s.notices.entries = some n ∧
    ((floor ≤ n.priority ∨ n.priority = 31) → s.presented = some n) ∧
    (n.priority < floor → n.priority ≠ 31 → s.presented = none)) ∧
  ∀ s : State, s.notices.entries = [] → queueHead s.notices.entries = none ∧ s.presented = none

/-! ### Invariants that every step keeps -/

/-- Every step keeps every keyed memory in its canonical form. -/
def Obligations.EveryStepKeepsMemoriesCanonical : Prop :=
  ∀ s t : State, s.Canonical → step s = .next t → t.Canonical

/-- Every step keeps within what the manual gives them: the Command, Sweep and Notice Queues, the forward FIFOs and the
receive buffers; the transmit sequence, the notice number and the source sequences; the counters of both groups, the flap
scores and the bucket counts; the link run, the scan position, the asset count, the manual floor and the configuration set;
and the time base, the resume time and the times stored in records (R1, R29, R31, R41, R49, R85, R104, R111, R127, R145, R163,
R166).

Where faults are attributed and their roots stand, which every step keeps too, the independent-fault count lies in 0..32,768
(R4). -/
def Obligations.EveryStepKeepsCapacities : Prop :=
  (∀ s t : State, s.WithinCapacity → step s = .next t → t.WithinCapacity) ∧
  ∀ s : State, s.WithinCapacity → s.RootsStand → s.correlator.independentCount ≤ 32768

/-- Every step keeps at most one entry for each subject and family in the Notice Queue, at most 256 entries, and every priority in
0..31 (R38, R95, R104). -/
def Obligations.EveryStepKeepsNoticesApart : Prop :=
  ∀ s t : State, s.NoticesApart → step s = .next t → t.NoticesApart

/-- Every step keeps the Sweep Queue as R49 says, with every walk position on the list (R49, R53, R56). -/
def Obligations.EveryStepKeepsTheSweepQueue : Prop :=
  ∀ s t : State, s.SweepOrdered → step s = .next t → t.SweepOrdered

/-- Every step keeps the tables in service sound: while READY every asset names a loaded class and has parent none or a lower one,
and every valid trunk entry lies within the asset count (R127, R130, R131, R139, R140, R142). -/
def Obligations.EveryStepKeepsServiceTablesSound : Prop :=
  ∀ s t : State, s.ServiceSound → step s = .next t → t.ServiceSound

/-- Every step keeps every record's run within the bounds of the class governing it: below Q in SUSPECT, at most P in RECOVERING,
0 in every other condition (R5). -/
def Obligations.EveryStepKeepsRunsBounded : Prop :=
  ∀ s t : State, s.RunsBounded → step s = .next t → t.RunsBounded

/-- Every step keeps the attribution of faults: for every asset X, X's dependents are the number of records whose cause is X, a
record with a cause is faulted, the independent-fault count is the number of faulted records with none, and the list holds,
once each, exactly the records that are faulted or HELD (R4, R45, R46, R70).

Every step keeps every cause standing: it names an ancestor within 4 parent links, and a record with dependents is
masking-faulted or the subject of a RELEASE job in the Sweep Queue (R3, R46); the root of a RELEASE job is not masking-faulted and
the running one has its dependents still ahead of it (R63, R66), a record at or above the asset count is clear (R1), and the scan
position lies below the asset count (R85), together with what these rest on. -/
def Obligations.EveryStepKeepsFaultsAttributed : Prop :=
  (∀ s t : State, s.Attributed → step s = .next t → t.Attributed) ∧
  ∀ s t : State, s.RootsStand → step s = .next t → t.RootsStand

/-- The state right after reset meets every invariant. -/
def Obligations.ResetMeetsEveryInvariant : Prop :=
  State.reset.Canonical ∧ State.reset.WithinCapacity ∧ State.reset.NoticesApart ∧ State.reset.SweepOrdered ∧
    State.reset.QuietUnlessReady ∧ State.reset.ServiceSound ∧ State.reset.RunsBounded ∧ State.reset.Attributed ∧
    State.reset.RootsStand
end

