-- ==== Sys2Proof/Laws/Table.lean ====
section
/-! SUPPORT. The laws of the keyed memories: a read after a write, the other keys, and the canonical form that every operation
keeps. -/

namespace Sys2Proof.Machine

variable {α : Type}

/-! ### Reads -/

@[simp] theorem tableGet_nil (d : α) (i : Nat) : tableGet d [] i = d := rfl

/-- A key below every listed key is unlisted. -/
theorem tableGet_of_lt {d : α} {t : Table α} {i : Nat} (h : ∀ e ∈ t, i < e.1) : tableGet d t i = d := by
  induction t with
  | nil => rfl
  | cons e t ih =>
    have := h e (List.mem_cons_self ..)
    simp only [tableGet]
    rw [if_neg (by omega)]
    exact ih fun x hx => h x (List.mem_cons_of_mem _ hx)

/-- A value read is listed, or is what an unlisted key reads as. -/
theorem tableGet_mem (d : α) (t : Table α) (i : Nat) : (i, tableGet d t i) ∈ t ∨ tableGet d t i = d := by
  induction t with
  | nil => exact .inr rfl
  | cons e t ih =>
    simp only [tableGet]
    split
    · next h => subst h; exact .inl (List.mem_cons_self ..)
    · exact ih.imp (List.mem_cons_of_mem _) id

/-- In canonical form an entry is read at its key. -/
theorem tableGet_of_mem {d : α} {t : Table α} (w : Table.wf d t) {i : Nat} {x : α} (h : (i, x) ∈ t) :
    tableGet d t i = x := by
  obtain ⟨p, q⟩ := w
  induction t with
  | nil => simp at h
  | cons e t ih =>
    obtain ⟨p1, p2⟩ := List.pairwise_cons.mp p
    rcases List.mem_cons.mp h with h | h
    · subst h; simp [tableGet]
    · have := p1 _ h
      simp only [tableGet]
      rw [if_neg (by simp at this; omega)]
      exact ih h p2 fun e he => q e (List.mem_cons_of_mem _ he)

/-- Two canonical memories that read alike are the same list. -/
theorem tableGet_ext {d : α} {t u : Table α} (wt : Table.wf d t) (wu : Table.wf d u)
    (h : ∀ i, tableGet d t i = tableGet d u i) : t = u := by
  have sub : ∀ {a b : Table α}, Table.wf d a → (∀ i, tableGet d a i = tableGet d b i) → ∀ e ∈ a, e ∈ b := by
    intro a b wa hab e he
    have r := tableGet_of_mem wa he
    rcases tableGet_mem d b e.1 with m | m
    · rw [← hab, r] at m; exact m
    · rw [← hab, r] at m; exact absurd m (wa.2 e he)
  refine List.Perm.eq_of_pairwise (fun a b _ _ h1 h2 => absurd h1 (by omega)) wt.1 wu.1 ?_
  have nd : ∀ {a : Table α}, Table.wf d a → a.Nodup := fun w => w.1.imp (by rintro a b h rfl; omega)
  exact (List.perm_ext_iff_of_nodup (nd wt) (nd wu)).mpr fun e =>
    ⟨sub wt h e, sub wu (fun i => (h i).symm) e⟩

/-! ### Writes -/

variable [DecidableEq α]

/-- A write leaves every other key. -/
theorem tableGet_tableSet_ne (d : α) (t : Table α) {i j : Nat} (x : α) (h : j ≠ i) :
    tableGet d (tableSet d t i x) j = tableGet d t j := by
  induction t with
  | nil => simp only [tableSet]; split <;> simp [tableGet, h]
  | cons e t ih =>
    obtain ⟨k, v⟩ := e
    simp only [tableSet]
    repeat' split
    all_goals simp_all [tableGet]

/-- A written value that is not what an unlisted key reads as is read back, in any memory. -/
theorem tableGet_tableSet_of_ne (d : α) (t : Table α) (i : Nat) {x : α} (h : x ≠ d) :
    tableGet d (tableSet d t i x) i = x := by
  induction t with
  | nil => simp [tableSet, tableGet, h]
  | cons e t ih =>
    obtain ⟨k, v⟩ := e
    simp only [tableSet, if_neg h]
    repeat' split
    all_goals simp_all [tableGet]

/-- In canonical form a written value is read back. -/
theorem tableGet_tableSet_self {d : α} {t : Table α} (w : Table.wf d t) (i : Nat) (x : α) :
    tableGet d (tableSet d t i x) i = x := by
  by_cases hx : x = d
  · subst hx
    obtain ⟨p, -⟩ := w
    induction t with
    | nil => simp [tableSet]
    | cons e t ih =>
      obtain ⟨k, v⟩ := e
      obtain ⟨p1, p2⟩ := List.pairwise_cons.mp p
      simp only [tableSet, if_pos]
      split
      · exact tableGet_of_lt fun e he => by
          rcases List.mem_cons.mp he with rfl | he
          · assumption
          · have := p1 e he; simp at this; omega
      · split
        · exact tableGet_of_lt fun e he => by have := p1 e he; simp at this; omega
        · simp only [tableGet, if_neg ‹¬ i = k›]; exact ih p2
  · exact tableGet_tableSet_of_ne d t i hx

/-- In canonical form a memory after a write reads as it did but at the key written. -/
theorem tableGet_tableSet {d : α} {t : Table α} (w : Table.wf d t) (i : Nat) (x : α) (j : Nat) :
    tableGet d (tableSet d t i x) j = if j = i then x else tableGet d t j := by
  split
  · next h => subst h; exact tableGet_tableSet_self w _ x
  · next h => exact tableGet_tableSet_ne d t x h

/-- An entry after a write is the written one, or was there before. -/
theorem mem_tableSet {d : α} {t : Table α} {i : Nat} {x : α} {e : Nat × α} (h : e ∈ tableSet d t i x) :
    e = (i, x) ∧ x ≠ d ∨ e ∈ t := by
  induction t with
  | nil => simp only [tableSet] at h; split at h <;> simp_all
  | cons a t ih =>
    obtain ⟨k, v⟩ := a
    simp only [tableSet] at h
    repeat' split at h
    all_goals simp_all
    all_goals grind

/-- A write keeps the canonical form. -/
theorem tableSet_wf {d : α} {t : Table α} (w : Table.wf d t) (i : Nat) (x : α) : Table.wf d (tableSet d t i x) := by
  refine ⟨?_, fun e he => ?_⟩
  · obtain ⟨p, -⟩ := w
    induction t with
    | nil => simp only [tableSet]; split <;> simp
    | cons a t ih =>
      obtain ⟨k, v⟩ := a
      obtain ⟨p1, p2⟩ := List.pairwise_cons.mp p
      simp only [tableSet]
      repeat' split
      · exact p
      · exact List.pairwise_cons.mpr ⟨fun e he => by
          rcases List.mem_cons.mp he with rfl | he
          · assumption
          · have := p1 e he; simp at this; simp; omega, p⟩
      · exact p2
      · exact List.pairwise_cons.mpr ⟨fun e he => by have := p1 e he; simp at this; simp; omega, p2⟩
      · refine List.pairwise_cons.mpr ⟨fun e he => ?_, ih p2⟩
        rcases mem_tableSet he with ⟨rfl, -⟩ | he
        · simp; omega
        · exact p1 e he
  · rcases mem_tableSet he with ⟨rfl, h⟩ | h
    · exact h
    · exact w.2 e h

theorem tableMap_cons_eq {d : α} {f : Nat → α → α} {k : Nat} {v : α} {t : Table α} (h : f k v = d) :
    tableMap d f ((k, v) :: t) = tableMap d f t := by simp [tableMap, h]

theorem tableMap_cons_ne {d : α} {f : Nat → α → α} {k : Nat} {v : α} {t : Table α} (h : f k v ≠ d) :
    tableMap d f ((k, v) :: t) = (k, f k v) :: tableMap d f t := by simp [tableMap, h]

/-- A change of every value reads as the change of what was read, where it leaves the unlisted value. -/
theorem tableGet_tableMap {d : α} {t : Table α} (w : Table.wf d t) (f : Nat → α → α) (hf : ∀ i, f i d = d) (i : Nat) :
    tableGet d (tableMap d f t) i = f i (tableGet d t i) := by
  obtain ⟨p, -⟩ := w
  induction t with
  | nil => simp [tableMap, hf]
  | cons e t ih =>
    obtain ⟨k, v⟩ := e
    obtain ⟨p1, p2⟩ := List.pairwise_cons.mp p
    have ih := ih p2
    by_cases hd : f k v = d
    · rw [tableMap_cons_eq hd]
      by_cases hi : i = k
      · subst hi
        simp only [tableGet, if_pos, hd]
        exact tableGet_of_lt fun e he => by
          obtain ⟨a, ha, rfl⟩ := List.mem_map.mp (List.mem_filter.mp he).1
          exact p1 a ha
      · simpa [tableGet, hi] using ih
    · rw [tableMap_cons_ne hd]
      by_cases hi : i = k
      · simp [tableGet, hi]
      · simpa [tableGet, hi] using ih

/-- A change of every value keeps the canonical form. -/
theorem tableMap_wf {d : α} {t : Table α} (w : Table.wf d t) (f : Nat → α → α) : Table.wf d (tableMap d f t) := by
  refine ⟨?_, fun e he => ?_⟩
  · exact List.Pairwise.filter _ (List.pairwise_map.mpr w.1)
  · simpa using (List.mem_filter.mp he).2

omit [DecidableEq α] in
/-- Erased keys read as unlisted, and every other key as before. -/
theorem tableGet_tableErase (d : α) (t : Table α) (lo n i : Nat) :
    tableGet d (tableErase t lo n) i = if lo ≤ i ∧ i < lo + n then d else tableGet d t i := by
  induction t with
  | nil => simp [tableErase]
  | cons e t ih =>
    obtain ⟨k, v⟩ := e
    by_cases hk : k < lo ∨ lo + n ≤ k
    · have : tableErase ((k, v) :: t) lo n = (k, v) :: tableErase t lo n := by simp [tableErase, hk]
      simp only [this, tableGet, ih]
      repeat' split
      all_goals first | rfl | omega
    · have : tableErase ((k, v) :: t) lo n = tableErase t lo n := by simp [tableErase, hk]
      simp only [this, tableGet, ih]
      repeat' split
      all_goals first | rfl | omega

omit [DecidableEq α] in
/-- An erase keeps the canonical form. -/
theorem tableErase_wf {d : α} {t : Table α} (w : Table.wf d t) (lo n : Nat) : Table.wf d (tableErase t lo n) :=
  ⟨w.1.filter _, fun e he => w.2 e (List.mem_filter.mp he).1⟩

/-- A run of writes keeps the canonical form. -/
theorem tableSetAll_wf {d : α} {t : Table α} (w : Table.wf d t) (i : Nat) (xs : List α) :
    Table.wf d (tableSetAll d t i xs) := by
  induction xs generalizing t i with
  | nil => exact w
  | cons x xs ih => exact ih (tableSet_wf w i x) _

/-- A run of values written reads back at its keys, and every other key as before. -/
theorem tableGet_tableSetAll {d : α} {t : Table α} (w : Table.wf d t) (i : Nat) (xs : List α) (j : Nat) :
    tableGet d (tableSetAll d t i xs) j = if i ≤ j ∧ j < i + xs.length then xs.getD (j - i) d else tableGet d t j := by
  induction xs generalizing t i with
  | nil => simp [tableSetAll]
  | cons x xs ih =>
    simp only [tableSetAll, ih (tableSet_wf w i x), tableGet_tableSet w, List.length_cons]
    by_cases h : j = i
    · subst h; simp
    · by_cases h2 : i + 1 ≤ j ∧ j < i + 1 + xs.length
      · rw [if_pos h2, if_pos (by omega), show j - i = (j - (i + 1)) + 1 by omega, List.getD_cons_succ]
      · rw [if_neg h2, if_neg h, if_neg (by omega)]

/-- The flash keeps its canonical form under an erase and under a write. -/
theorem memory_wf {m : Memory} (w : Memory.wf m) (lo n i : Nat) (xs : List Byte) :
    Memory.wf (tableErase m lo n) ∧ Memory.wf (tableSetAll erasedByte m i xs) :=
  ⟨tableErase_wf w lo n, tableSetAll_wf w i xs⟩

end Sys2Proof.Machine
end

