-- ==== Sys2Proof/Laws/State.lean ====
section
/-! SUPPORT. The fields that each plain update of the state leaves as they were, what it sets, and what is read
after it. -/

namespace Sys2Proof.Machine

variable (s : State)

/-- The resume time alone is set. -/
@[simp] theorem State.resume_frame :
    let t := s.resume
    t.inReset = s.inReset ∧ t.straps = s.straps ∧ t.initialising = s.initialising ∧ t.fport = s.fport ∧
    t.dport = s.dport ∧ t.link = s.link ∧ t.sources = s.sources ∧ t.tables = s.tables ∧
    t.correlator.state = s.correlator.state ∧ t.correlator.records = s.correlator.records ∧
    t.correlator.independentCount = s.correlator.independentCount ∧ t.board = s.board ∧ t.sweep = s.sweep ∧
    t.scan = s.scan ∧ t.notices = s.notices ∧ t.storm = s.storm ∧ t.escalation = s.escalation ∧ t.agent = s.agent ∧
    t.flash = s.flash ∧ t.pending = s.pending :=
  by repeat' constructor

/-- A record written touches the record memory alone. -/
@[simp] theorem State.setRecord_frame (a : Nat) (r : FaultRecord) :
    let t := s.setRecord a r
    t.inReset = s.inReset ∧ t.straps = s.straps ∧ t.initialising = s.initialising ∧ t.fport = s.fport ∧
    t.dport = s.dport ∧ t.link = s.link ∧ t.sources = s.sources ∧ t.tables = s.tables ∧
    t.correlator.state = s.correlator.state ∧ t.correlator.independentCount = s.correlator.independentCount ∧
    t.correlator.resumeTime = s.correlator.resumeTime ∧ t.board = s.board ∧ t.sweep = s.sweep ∧ t.scan = s.scan ∧
    t.notices = s.notices ∧ t.storm = s.storm ∧ t.escalation = s.escalation ∧ t.agent = s.agent ∧ t.flash = s.flash ∧
    t.pending = s.pending :=
  by repeat' constructor

/-- A record changed touches the record memory alone. -/
@[simp] theorem State.modRecord_frame (a : Nat) (f : FaultRecord → FaultRecord) :
    let t := s.modRecord a f
    t.inReset = s.inReset ∧ t.straps = s.straps ∧ t.initialising = s.initialising ∧ t.fport = s.fport ∧
    t.dport = s.dport ∧ t.link = s.link ∧ t.sources = s.sources ∧ t.tables = s.tables ∧
    t.correlator.state = s.correlator.state ∧ t.correlator.independentCount = s.correlator.independentCount ∧
    t.correlator.resumeTime = s.correlator.resumeTime ∧ t.board = s.board ∧ t.sweep = s.sweep ∧ t.scan = s.scan ∧
    t.notices = s.notices ∧ t.storm = s.storm ∧ t.escalation = s.escalation ∧ t.agent = s.agent ∧ t.flash = s.flash ∧
    t.pending = s.pending :=
  by repeat' constructor

/-- A source changed touches the Source Table alone. -/
@[simp] theorem State.modSource_frame (n : Nat) (f : SourceEntry → SourceEntry) :
    let t := s.modSource n f
    t.inReset = s.inReset ∧ t.straps = s.straps ∧ t.initialising = s.initialising ∧ t.fport = s.fport ∧
    t.dport = s.dport ∧ t.link = s.link ∧ t.sources.due = s.sources.due ∧ t.tables = s.tables ∧
    t.correlator = s.correlator ∧ t.board = s.board ∧ t.sweep = s.sweep ∧ t.scan = s.scan ∧ t.notices = s.notices ∧
    t.storm = s.storm ∧ t.escalation = s.escalation ∧ t.agent = s.agent ∧ t.flash = s.flash ∧ t.pending = s.pending :=
  by repeat' constructor

/-- The independent-fault count alone rises. -/
@[simp] theorem State.countIndependent_frame :
    let t := s.countIndependent
    t.inReset = s.inReset ∧ t.straps = s.straps ∧ t.initialising = s.initialising ∧ t.fport = s.fport ∧
    t.dport = s.dport ∧ t.link = s.link ∧ t.sources = s.sources ∧ t.tables = s.tables ∧
    t.correlator.state = s.correlator.state ∧ t.correlator.records = s.correlator.records ∧
    t.correlator.resumeTime = s.correlator.resumeTime ∧ t.board = s.board ∧ t.sweep = s.sweep ∧ t.scan = s.scan ∧
    t.notices = s.notices ∧ t.storm = s.storm ∧ t.escalation = s.escalation ∧ t.agent = s.agent ∧ t.flash = s.flash ∧
    t.pending = s.pending :=
  by repeat' constructor

/-- The independent-fault count alone falls. -/
@[simp] theorem State.uncountIndependent_frame :
    let t := s.uncountIndependent
    t.inReset = s.inReset ∧ t.straps = s.straps ∧ t.initialising = s.initialising ∧ t.fport = s.fport ∧
    t.dport = s.dport ∧ t.link = s.link ∧ t.sources = s.sources ∧ t.tables = s.tables ∧
    t.correlator.state = s.correlator.state ∧ t.correlator.records = s.correlator.records ∧
    t.correlator.resumeTime = s.correlator.resumeTime ∧ t.board = s.board ∧ t.sweep = s.sweep ∧ t.scan = s.scan ∧
    t.notices = s.notices ∧ t.storm = s.storm ∧ t.escalation = s.escalation ∧ t.agent = s.agent ∧ t.flash = s.flash ∧
    t.pending = s.pending :=
  by repeat' constructor

/-- The refresh touches the record memory alone. -/
@[simp] theorem State.refresh_frame (a : Nat) (i : Item) (n : Nat) :
    let t := s.refresh a i n
    t.inReset = s.inReset ∧ t.straps = s.straps ∧ t.initialising = s.initialising ∧ t.fport = s.fport ∧
    t.dport = s.dport ∧ t.link = s.link ∧ t.sources = s.sources ∧ t.tables = s.tables ∧
    t.correlator.state = s.correlator.state ∧ t.correlator.independentCount = s.correlator.independentCount ∧
    t.correlator.resumeTime = s.correlator.resumeTime ∧ t.board = s.board ∧ t.sweep = s.sweep ∧ t.scan = s.scan ∧
    t.notices = s.notices ∧ t.storm = s.storm ∧ t.escalation = s.escalation ∧ t.agent = s.agent ∧ t.flash = s.flash ∧
    t.pending = s.pending :=
  by repeat' constructor

/-- A withdrawal touches the entries of the Notice Queue alone. -/
@[simp] theorem State.withdraw_frame (a : Nat) :
    let t := s.withdraw a
    t.inReset = s.inReset ∧ t.straps = s.straps ∧ t.initialising = s.initialising ∧ t.fport = s.fport ∧
    t.dport = s.dport ∧ t.link = s.link ∧ t.sources = s.sources ∧ t.tables = s.tables ∧ t.correlator = s.correlator ∧
    t.board = s.board ∧ t.sweep = s.sweep ∧ t.scan = s.scan ∧ t.notices.evicted = s.notices.evicted ∧
    t.notices.dropped = s.notices.dropped ∧ t.storm = s.storm ∧ t.escalation = s.escalation ∧ t.agent = s.agent ∧
    t.flash = s.flash ∧ t.pending = s.pending :=
  by repeat' constructor

/-- A frame originated takes the transmitter and the sequence alone. -/
@[simp] theorem State.sendOwn_frame (k : Nat) (p : Bytes) :
    let t := s.sendOwn k p
    t.inReset = s.inReset ∧ t.straps = s.straps ∧ t.initialising = s.initialising ∧ t.fport = s.fport ∧
    t.dport.receive = s.dport.receive ∧ t.dport.up = s.dport.up ∧ t.dport.reply = s.dport.reply ∧
    t.dport.mark = s.dport.mark ∧ t.dport.noticeNumber = s.dport.noticeNumber ∧ t.dport.counters = s.dport.counters ∧
    t.link = s.link ∧ t.sources = s.sources ∧ t.tables = s.tables ∧ t.correlator = s.correlator ∧ t.board = s.board ∧
    t.sweep = s.sweep ∧ t.scan = s.scan ∧ t.notices = s.notices ∧ t.storm = s.storm ∧ t.escalation = s.escalation ∧
    t.agent = s.agent ∧ t.flash = s.flash ∧ t.pending = s.pending :=
  by repeat' constructor

/-- A notice handed off touches the D-port and the queue's entries alone. -/
@[simp] theorem State.sendNotice_frame (n : Notice) :
    let t := s.sendNotice n
    t.inReset = s.inReset ∧ t.straps = s.straps ∧ t.initialising = s.initialising ∧ t.fport = s.fport ∧
    t.dport.receive = s.dport.receive ∧ t.dport.up = s.dport.up ∧ t.dport.reply = s.dport.reply ∧ t.link = s.link ∧
    t.sources = s.sources ∧ t.tables = s.tables ∧ t.correlator = s.correlator ∧ t.board = s.board ∧
    t.sweep = s.sweep ∧ t.scan = s.scan ∧ t.notices.evicted = s.notices.evicted ∧
    t.notices.dropped = s.notices.dropped ∧ t.storm = s.storm ∧ t.escalation = s.escalation ∧ t.agent = s.agent ∧
    t.flash = s.flash ∧ t.pending = s.pending :=
  by repeat' constructor

/-- A forwarded frame sent touches the D-port alone. -/
@[simp] theorem State.sendForward_frame (f : Bytes) (rest : List Bytes) :
    let t := s.sendForward f rest
    t.inReset = s.inReset ∧ t.straps = s.straps ∧ t.initialising = s.initialising ∧ t.fport = s.fport ∧
    t.dport.receive = s.dport.receive ∧ t.dport.reply = s.dport.reply ∧ t.dport.sequence = s.dport.sequence ∧
    t.dport.noticeNumber = s.dport.noticeNumber ∧ t.link = s.link ∧ t.sources = s.sources ∧ t.tables = s.tables ∧
    t.correlator = s.correlator ∧ t.board = s.board ∧ t.sweep = s.sweep ∧ t.scan = s.scan ∧ t.notices = s.notices ∧
    t.storm = s.storm ∧ t.escalation = s.escalation ∧ t.agent = s.agent ∧ t.flash = s.flash ∧ t.pending = s.pending :=
  by repeat' constructor

/-- The time base and the resume time alone are set, and what the last advance marked lapses. -/
@[simp] theorem State.setTime_frame (n : Nat) :
    let t := s.setTime n
    t.inReset = s.inReset ∧ t.straps = s.straps ∧ t.initialising = s.initialising ∧ t.fport = s.fport ∧
    t.dport = s.dport ∧ t.link.state = s.link.state ∧ t.link.run = s.link.run ∧ t.link.lastGood = s.link.lastGood ∧
    t.link.passedAt = s.link.passedAt ∧ t.sources.table = s.sources.table ∧ t.tables = s.tables ∧
    t.correlator.state = s.correlator.state ∧ t.correlator.records = s.correlator.records ∧
    t.correlator.independentCount = s.correlator.independentCount ∧ t.board = s.board ∧ t.sweep = s.sweep ∧
    t.scan = s.scan ∧ t.notices = s.notices ∧ t.storm = s.storm ∧ t.escalation = s.escalation ∧
    t.agent.state = s.agent.state ∧ t.agent.queue = s.agent.queue ∧ t.agent.long = s.agent.long ∧
    t.agent.config = s.agent.config ∧ t.agent.mode = s.agent.mode ∧ t.agent.bootFailed = s.agent.bootFailed ∧
    t.agent.bootOrdinal = s.agent.bootOrdinal ∧ t.agent.overruns = s.agent.overruns ∧ t.flash = s.flash ∧
    t.pending = s.pending :=
  by repeat' constructor

/-- A good frame sets last good frame and answers the watchdog. -/
@[simp] theorem State.hearGood_frame :
    let t := s.hearGood
    t.inReset = s.inReset ∧ t.straps = s.straps ∧ t.initialising = s.initialising ∧ t.fport = s.fport ∧
    t.dport = s.dport ∧ t.link.state = s.link.state ∧ t.link.run = s.link.run ∧ t.link.passedAt = s.link.passedAt ∧
    t.sources = s.sources ∧ t.tables = s.tables ∧ t.correlator = s.correlator ∧ t.board = s.board ∧
    t.sweep = s.sweep ∧ t.scan = s.scan ∧ t.notices = s.notices ∧ t.storm = s.storm ∧ t.escalation = s.escalation ∧
    t.agent = s.agent ∧ t.flash = s.flash ∧ t.pending = s.pending :=
  by repeat' constructor

/-- The configuration set alone is replaced, and what the last advance marked may lapse. -/
@[simp] theorem State.replaceConfig_frame (c : ConfigSet) :
    let t := s.replaceConfig c
    t.inReset = s.inReset ∧ t.straps = s.straps ∧ t.initialising = s.initialising ∧ t.fport = s.fport ∧
    t.dport = s.dport ∧ t.link.state = s.link.state ∧ t.link.run = s.link.run ∧ t.link.lastGood = s.link.lastGood ∧
    t.link.passedAt = s.link.passedAt ∧ t.sources.table = s.sources.table ∧ t.tables = s.tables ∧
    t.correlator = s.correlator ∧ t.board = s.board ∧ t.sweep = s.sweep ∧ t.scan = s.scan ∧ t.notices = s.notices ∧
    t.storm = s.storm ∧ t.escalation = s.escalation ∧ t.agent.state = s.agent.state ∧ t.agent.queue = s.agent.queue ∧
    t.agent.long = s.agent.long ∧ t.agent.time = s.agent.time ∧ t.agent.mode = s.agent.mode ∧
    t.agent.bootFailed = s.agent.bootFailed ∧ t.agent.bootOrdinal = s.agent.bootOrdinal ∧
    t.agent.overruns = s.agent.overruns ∧ t.flash = s.flash ∧ t.pending = s.pending :=
  by repeat' constructor

/-- The counters of group PORT alone are zeroed. -/
@[simp] theorem State.zeroPortGroup_frame :
    let t := s.zeroPortGroup
    t.inReset = s.inReset ∧ t.straps = s.straps ∧ t.initialising = s.initialising ∧
    t.fport.lineSignal = s.fport.lineSignal ∧ t.fport.receive = s.fport.receive ∧ t.fport.down = s.fport.down ∧
    t.fport.sending = s.fport.sending ∧ t.dport.receive = s.dport.receive ∧ t.dport.up = s.dport.up ∧
    t.dport.reply = s.dport.reply ∧ t.dport.sending = s.dport.sending ∧ t.dport.mark = s.dport.mark ∧
    t.dport.sequence = s.dport.sequence ∧ t.dport.noticeNumber = s.dport.noticeNumber ∧ t.link = s.link ∧
    t.sources = s.sources ∧ t.tables = s.tables ∧ t.correlator = s.correlator ∧ t.board = s.board ∧
    t.sweep.jobs = s.sweep.jobs ∧ t.scan = s.scan ∧ t.notices.entries = s.notices.entries ∧ t.storm = s.storm ∧
    t.escalation = s.escalation ∧ t.agent.state = s.agent.state ∧ t.agent.queue = s.agent.queue ∧
    t.agent.long = s.agent.long ∧ t.agent.time = s.agent.time ∧ t.agent.config = s.agent.config ∧
    t.agent.mode = s.agent.mode ∧ t.agent.bootFailed = s.agent.bootFailed ∧
    t.agent.bootOrdinal = s.agent.bootOrdinal ∧ t.flash = s.flash ∧ t.pending = s.pending :=
  by repeat' constructor

/-- A class written touches the Class Table alone. -/
@[simp] theorem State.putClass_frame (e : Bytes) :
    let t := s.putClass e
    t.inReset = s.inReset ∧ t.straps = s.straps ∧ t.initialising = s.initialising ∧ t.fport = s.fport ∧
    t.dport = s.dport ∧ t.link = s.link ∧ t.sources = s.sources ∧ t.tables.trunks = s.tables.trunks ∧
    t.tables.assets = s.tables.assets ∧ t.tables.templates = s.tables.templates ∧
    t.tables.assetCount = s.tables.assetCount ∧ t.correlator = s.correlator ∧ t.board = s.board ∧ t.sweep = s.sweep ∧
    t.scan = s.scan ∧ t.notices = s.notices ∧ t.storm = s.storm ∧ t.escalation = s.escalation ∧ t.agent = s.agent ∧
    t.flash = s.flash ∧ t.pending = s.pending :=
  by repeat' constructor

/-- A template written touches its table alone. -/
@[simp] theorem State.putTemplate_frame (e : Bytes) :
    let t := s.putTemplate e
    t.inReset = s.inReset ∧ t.straps = s.straps ∧ t.initialising = s.initialising ∧ t.fport = s.fport ∧
    t.dport = s.dport ∧ t.link = s.link ∧ t.sources = s.sources ∧ t.tables.trunks = s.tables.trunks ∧
    t.tables.assets = s.tables.assets ∧ t.tables.classes = s.tables.classes ∧
    t.tables.assetCount = s.tables.assetCount ∧ t.correlator = s.correlator ∧ t.board = s.board ∧ t.sweep = s.sweep ∧
    t.scan = s.scan ∧ t.notices = s.notices ∧ t.storm = s.storm ∧ t.escalation = s.escalation ∧ t.agent = s.agent ∧
    t.flash = s.flash ∧ t.pending = s.pending :=
  by repeat' constructor

/-- An asset written touches the Asset Table alone. -/
@[simp] theorem State.putAsset_frame (e : Bytes) :
    let t := s.putAsset e
    t.inReset = s.inReset ∧ t.straps = s.straps ∧ t.initialising = s.initialising ∧ t.fport = s.fport ∧
    t.dport = s.dport ∧ t.link = s.link ∧ t.sources = s.sources ∧ t.tables.trunks = s.tables.trunks ∧
    t.tables.classes = s.tables.classes ∧ t.tables.templates = s.tables.templates ∧
    t.tables.assetCount = s.tables.assetCount ∧ t.correlator = s.correlator ∧ t.board = s.board ∧ t.sweep = s.sweep ∧
    t.scan = s.scan ∧ t.notices = s.notices ∧ t.storm = s.storm ∧ t.escalation = s.escalation ∧ t.agent = s.agent ∧
    t.flash = s.flash ∧ t.pending = s.pending :=
  by repeat' constructor

/-- A trunk entry written touches the Trunk Map alone. -/
@[simp] theorem State.putTrunk_frame (e : Bytes) :
    let t := s.putTrunk e
    t.inReset = s.inReset ∧ t.straps = s.straps ∧ t.initialising = s.initialising ∧ t.fport = s.fport ∧
    t.dport = s.dport ∧ t.link = s.link ∧ t.sources = s.sources ∧ t.tables.assets = s.tables.assets ∧
    t.tables.classes = s.tables.classes ∧ t.tables.templates = s.tables.templates ∧
    t.tables.assetCount = s.tables.assetCount ∧ t.correlator = s.correlator ∧ t.board = s.board ∧ t.sweep = s.sweep ∧
    t.scan = s.scan ∧ t.notices = s.notices ∧ t.storm = s.storm ∧ t.escalation = s.escalation ∧ t.agent = s.agent ∧
    t.flash = s.flash ∧ t.pending = s.pending :=
  by repeat' constructor

/-- Validation begins with the state and the long command alone. -/
@[simp] theorem State.beginValidation_frame (n : Nat) :
    let t := s.beginValidation n
    t.inReset = s.inReset ∧ t.straps = s.straps ∧ t.initialising = s.initialising ∧ t.fport = s.fport ∧
    t.dport = s.dport ∧ t.link = s.link ∧ t.sources = s.sources ∧ t.tables = s.tables ∧
    t.correlator.records = s.correlator.records ∧ t.correlator.independentCount = s.correlator.independentCount ∧
    t.correlator.resumeTime = s.correlator.resumeTime ∧ t.board = s.board ∧ t.sweep = s.sweep ∧ t.scan = s.scan ∧
    t.notices = s.notices ∧ t.storm = s.storm ∧ t.escalation = s.escalation ∧ t.agent.state = s.agent.state ∧
    t.agent.queue = s.agent.queue ∧ t.agent.time = s.agent.time ∧ t.agent.config = s.agent.config ∧
    t.agent.mode = s.agent.mode ∧ t.agent.bootFailed = s.agent.bootFailed ∧
    t.agent.bootOrdinal = s.agent.bootOrdinal ∧ t.agent.overruns = s.agent.overruns ∧ t.flash = s.flash ∧
    t.pending = s.pending :=
  by repeat' constructor

/-- Validation that fails moves the state and the long command alone. -/
@[simp] theorem State.backToLoading_frame :
    let t := s.backToLoading
    t.inReset = s.inReset ∧ t.straps = s.straps ∧ t.initialising = s.initialising ∧ t.fport = s.fport ∧
    t.dport = s.dport ∧ t.link = s.link ∧ t.sources = s.sources ∧ t.tables = s.tables ∧
    t.correlator.records = s.correlator.records ∧ t.correlator.independentCount = s.correlator.independentCount ∧
    t.correlator.resumeTime = s.correlator.resumeTime ∧ t.board = s.board ∧ t.sweep = s.sweep ∧ t.scan = s.scan ∧
    t.notices = s.notices ∧ t.storm = s.storm ∧ t.escalation = s.escalation ∧ t.agent.state = s.agent.state ∧
    t.agent.queue = s.agent.queue ∧ t.agent.time = s.agent.time ∧ t.agent.config = s.agent.config ∧
    t.agent.mode = s.agent.mode ∧ t.agent.bootFailed = s.agent.bootFailed ∧
    t.agent.bootOrdinal = s.agent.bootOrdinal ∧ t.agent.overruns = s.agent.overruns ∧ t.flash = s.flash ∧
    t.pending = s.pending :=
  by repeat' constructor

/-- What a restart's first action keeps. -/
@[simp] theorem State.beginRestart_frame (full : Bool) :
    let t := s.beginRestart full
    t.inReset = s.inReset ∧ t.straps = s.straps ∧ t.initialising = s.initialising ∧
    t.fport.lineSignal = s.fport.lineSignal ∧ t.fport.receive = s.fport.receive ∧ t.fport.down = s.fport.down ∧
    t.fport.sending = s.fport.sending ∧ t.dport.receive = s.dport.receive ∧ t.dport.up = s.dport.up ∧
    t.dport.reply = s.dport.reply ∧ t.dport.sending = s.dport.sending ∧ t.dport.mark = s.dport.mark ∧
    t.dport.sequence = s.dport.sequence ∧ t.dport.noticeNumber = s.dport.noticeNumber ∧ t.link = s.link ∧
    t.correlator.resumeTime = s.correlator.resumeTime ∧ t.agent.state = s.agent.state ∧
    t.agent.queue = s.agent.queue ∧ t.agent.time = s.agent.time ∧ t.agent.config = s.agent.config ∧
    t.agent.mode = s.agent.mode ∧ t.flash = s.flash ∧ t.pending = s.pending :=
  by repeat' constructor

/-! ### What each plain update sets -/

@[simp] theorem State.resume_resumeTime : s.resume.correlator.resumeTime = s.agent.time := rfl

@[simp] theorem State.setRecord_records (a : Nat) (r : FaultRecord) :
    (s.setRecord a r).correlator.records = tableSet clearRecord s.correlator.records a r := rfl

theorem State.modRecord_eq (a : Nat) (f : FaultRecord → FaultRecord) :
    s.modRecord a f = s.setRecord a (f (s.record a)) := rfl

@[simp] theorem State.modSource_table (n : Nat) (f : SourceEntry → SourceEntry) :
    (s.modSource n f).sources.table = tableSet unusedSource s.sources.table n (f (s.source n)) := rfl

@[simp] theorem State.countIndependent_count :
    s.countIndependent.correlator.independentCount = s.correlator.independentCount + 1 := rfl

@[simp] theorem State.uncountIndependent_count :
    s.uncountIndependent.correlator.independentCount = s.correlator.independentCount - 1 := rfl

@[simp] theorem State.withdraw_entries (a : Nat) :
    (s.withdraw a).notices.entries = s.notices.entries.filter fun n =>
      !(n.isFor (.asset a) .condition || n.isFor (.asset a) .flap) := rfl

@[simp] theorem State.sendNotice_entries (n : Notice) :
    (s.sendNotice n).notices.entries = s.notices.entries.erase n := rfl

@[simp] theorem State.setTime_time (n : Nat) : (s.setTime n).agent.time = n := rfl

@[simp] theorem State.setTime_resumeTime (n : Nat) : (s.setTime n).correlator.resumeTime = n := rfl

@[simp] theorem State.setTime_watchdogDue (n : Nat) : (s.setTime n).link.watchdogDue = false := rfl

@[simp] theorem State.setTime_due (n : Nat) : (s.setTime n).sources.due = [] := rfl

@[simp] theorem State.hearGood_lastGood : s.hearGood.link.lastGood = some s.agent.time := rfl

@[simp] theorem State.hearGood_watchdogDue : s.hearGood.link.watchdogDue = false := rfl

@[simp] theorem State.replaceConfig_config (c : ConfigSet) : (s.replaceConfig c).agent.config = c := rfl

/-- The sources of a load touch the Source Table alone. -/
theorem State.startSources_eq : ∃ table, s.startSources = { s with sources.table := table } := ⟨_, rfl⟩

/-! ### Reads after an update -/

/-- Another record is unchanged by a write. -/
theorem State.record_setRecord_ne {a b : Nat} (r : FaultRecord) (h : b ≠ a) : (s.setRecord a r).record b = s.record b :=
  tableGet_tableSet_ne _ _ _ h

/-- A record written reads back, in canonical memory. -/
theorem State.record_setRecord_self {s : State} (w : Table.wf clearRecord s.correlator.records) (a : Nat)
    (r : FaultRecord) : (s.setRecord a r).record a = r := tableGet_tableSet_self w a r

/-- A record written that is not clear reads back, in any memory. -/
theorem State.record_setRecord_of_ne {r : FaultRecord} (h : r ≠ clearRecord) (a : Nat) :
    (s.setRecord a r).record a = r := tableGet_tableSet_of_ne _ _ a h

/-- Every record after a write, in canonical memory. -/
theorem State.record_setRecord {s : State} (w : Table.wf clearRecord s.correlator.records) (a : Nat) (r : FaultRecord)
    (b : Nat) : (s.setRecord a r).record b = if b = a then r else s.record b := tableGet_tableSet w a r b

/-- Another source is unchanged by a change. -/
theorem State.source_modSource_ne {n m : Nat} (f : SourceEntry → SourceEntry) (h : m ≠ n) :
    (s.modSource n f).source m = s.source m := tableGet_tableSet_ne _ _ _ h

/-- A record is read from the record memory alone. -/
theorem State.record_congr {s t : State} (h : t.correlator.records = s.correlator.records) (a : Nat) :
    t.record a = s.record a := by simp [State.record, h]

/-- The class that governs an asset is read from the loaded tables alone. -/
theorem State.classOf_congr {s t : State} (h : t.tables = s.tables) (a : Nat) : t.classOf a = s.classOf a := by
  simp [State.classOf, State.loadedClass, State.asset, h]

/-- The asset of an index is read from the loaded tables alone. -/
theorem State.asset_congr {s t : State} (h : t.tables = s.tables) (a : Nat) : t.asset a = s.asset a := by
  simp [State.asset, h]

/-- A source is read from the Source Table alone. -/
theorem State.source_congr {s t : State} (h : t.sources.table = s.sources.table) (n : Nat) : t.source n = s.source n := by
  simp [State.source, h]

@[simp] theorem State.setRecord_asset (a : Nat) (r : FaultRecord) (b : Nat) : (s.setRecord a r).asset b = s.asset b := rfl

@[simp] theorem State.setRecord_classOf (a : Nat) (r : FaultRecord) (b : Nat) :
    (s.setRecord a r).classOf b = s.classOf b := rfl

@[simp] theorem State.modRecord_asset (a : Nat) (f : FaultRecord → FaultRecord) (b : Nat) :
    (s.modRecord a f).asset b = s.asset b := rfl

@[simp] theorem State.modRecord_classOf (a : Nat) (f : FaultRecord → FaultRecord) (b : Nat) :
    (s.modRecord a f).classOf b = s.classOf b := rfl

@[simp] theorem State.setRecord_now (a : Nat) (r : FaultRecord) : (s.setRecord a r).now = s.now := rfl

@[simp] theorem State.modRecord_now (a : Nat) (f : FaultRecord → FaultRecord) : (s.modRecord a f).now = s.now := rfl

end Sys2Proof.Machine
end

