-- ==== Sys2Proof/Laws/Ops.lean ====
section
/-! SUPPORT. For each shared operation, the fields it leaves as they were; how a row runs; and what the smaller operations
do. -/

namespace Sys2Proof.Machine

variable (s : State)

/-- What `takeCommand` leaves. -/
@[simp] theorem State.takeCommand_frame :
    let t := s.takeCommand
    t.inReset = s.inReset ∧ t.straps = s.straps ∧ t.initialising = s.initialising ∧ t.fport = s.fport ∧
    t.dport = s.dport ∧ t.link = s.link ∧ t.sources = s.sources ∧ t.tables = s.tables ∧ t.correlator = s.correlator ∧
    t.board = s.board ∧ t.sweep = s.sweep ∧ t.scan = s.scan ∧ t.notices = s.notices ∧ t.storm = s.storm ∧
    t.escalation = s.escalation ∧ t.agent.long = s.agent.long ∧ t.agent.time = s.agent.time ∧
    t.agent.config = s.agent.config ∧ t.agent.mode = s.agent.mode ∧ t.agent.bootFailed = s.agent.bootFailed ∧
    t.agent.bootOrdinal = s.agent.bootOrdinal ∧ t.agent.overruns = s.agent.overruns ∧ t.flash = s.flash ∧
    t.pending = s.pending :=
  by
  simp only [State.takeCommand]; (repeat' split) <;> simp

/-- What `queueCommand` leaves. -/
@[simp] theorem State.queueCommand_frame (f : Bytes) :
    let t := s.queueCommand f
    t.inReset = s.inReset ∧ t.straps = s.straps ∧ t.initialising = s.initialising ∧ t.fport = s.fport ∧
    t.dport = s.dport ∧ t.link = s.link ∧ t.sources = s.sources ∧ t.tables = s.tables ∧ t.correlator = s.correlator ∧
    t.board = s.board ∧ t.sweep = s.sweep ∧ t.scan = s.scan ∧ t.notices = s.notices ∧ t.storm = s.storm ∧
    t.escalation = s.escalation ∧ t.agent.long = s.agent.long ∧ t.agent.time = s.agent.time ∧
    t.agent.config = s.agent.config ∧ t.agent.mode = s.agent.mode ∧ t.agent.bootFailed = s.agent.bootFailed ∧
    t.agent.bootOrdinal = s.agent.bootOrdinal ∧ t.flash = s.flash ∧ t.pending = s.pending :=
  by
  simp only [State.queueCommand]; (repeat' split) <;> simp

/-- What `replyChosen` leaves. -/
@[simp] theorem State.replyChosen_frame :
    let t := s.replyChosen
    t.inReset = s.inReset ∧ t.straps = s.straps ∧ t.initialising = s.initialising ∧ t.fport = s.fport ∧
    t.dport = s.dport ∧ t.link = s.link ∧ t.sources = s.sources ∧ t.tables = s.tables ∧ t.correlator = s.correlator ∧
    t.board = s.board ∧ t.sweep = s.sweep ∧ t.scan = s.scan ∧ t.notices = s.notices ∧ t.storm = s.storm ∧
    t.escalation = s.escalation ∧ t.agent.long = s.agent.long ∧ t.agent.time = s.agent.time ∧
    t.agent.config = s.agent.config ∧ t.agent.mode = s.agent.mode ∧ t.agent.bootFailed = s.agent.bootFailed ∧
    t.agent.bootOrdinal = s.agent.bootOrdinal ∧ t.agent.overruns = s.agent.overruns ∧ t.flash = s.flash ∧
    t.pending = s.pending :=
  by
  simp only [State.replyChosen]; (repeat' split) <;> simp

/-- What `sendReply` leaves. -/
@[simp] theorem State.sendReply_frame (p : Bytes) :
    let t := s.sendReply p
    t.inReset = s.inReset ∧ t.straps = s.straps ∧ t.initialising = s.initialising ∧ t.fport = s.fport ∧
    t.dport.receive = s.dport.receive ∧ t.dport.up = s.dport.up ∧ t.dport.mark = s.dport.mark ∧
    t.dport.noticeNumber = s.dport.noticeNumber ∧ t.link = s.link ∧ t.sources = s.sources ∧ t.tables = s.tables ∧
    t.correlator = s.correlator ∧ t.board = s.board ∧ t.sweep = s.sweep ∧ t.scan = s.scan ∧ t.notices = s.notices ∧
    t.storm = s.storm ∧ t.escalation = s.escalation ∧ t.agent.long = s.agent.long ∧ t.agent.time = s.agent.time ∧
    t.agent.config = s.agent.config ∧ t.agent.mode = s.agent.mode ∧ t.agent.bootFailed = s.agent.bootFailed ∧
    t.agent.bootOrdinal = s.agent.bootOrdinal ∧ t.agent.overruns = s.agent.overruns ∧ t.flash = s.flash ∧
    t.pending = s.pending :=
  by simp [State.sendReply]

/-- What `chooseBelowReply` leaves. -/
@[simp] theorem State.chooseBelowReply_frame :
    let t := s.chooseBelowReply
    t.inReset = s.inReset ∧ t.straps = s.straps ∧ t.initialising = s.initialising ∧ t.fport = s.fport ∧
    t.dport.receive = s.dport.receive ∧ t.dport.reply = s.dport.reply ∧ t.link = s.link ∧ t.sources = s.sources ∧
    t.tables = s.tables ∧ t.correlator = s.correlator ∧ t.board = s.board ∧ t.sweep = s.sweep ∧ t.scan = s.scan ∧
    t.notices.evicted = s.notices.evicted ∧ t.notices.dropped = s.notices.dropped ∧ t.storm = s.storm ∧
    t.escalation = s.escalation ∧ t.agent = s.agent ∧ t.flash = s.flash ∧ t.pending = s.pending :=
  by
  simp only [State.chooseBelowReply]; (repeat' split) <;> simp

/-- What `choose` leaves. -/
@[simp] theorem State.choose_frame :
    let t := s.choose
    t.inReset = s.inReset ∧ t.straps = s.straps ∧ t.initialising = s.initialising ∧ t.fport = s.fport ∧
    t.dport.receive = s.dport.receive ∧ t.link = s.link ∧ t.sources = s.sources ∧ t.tables = s.tables ∧
    t.correlator = s.correlator ∧ t.board = s.board ∧ t.sweep = s.sweep ∧ t.scan = s.scan ∧
    t.notices.evicted = s.notices.evicted ∧ t.notices.dropped = s.notices.dropped ∧ t.storm = s.storm ∧
    t.escalation = s.escalation ∧ t.agent.long = s.agent.long ∧ t.agent.time = s.agent.time ∧
    t.agent.config = s.agent.config ∧ t.agent.mode = s.agent.mode ∧ t.agent.bootFailed = s.agent.bootFailed ∧
    t.agent.bootOrdinal = s.agent.bootOrdinal ∧ t.agent.overruns = s.agent.overruns ∧ t.flash = s.flash ∧
    t.pending = s.pending :=
  by
  simp only [State.choose]; (repeat' split) <;> simp

/-- What `offerDispatch` leaves. -/
@[simp] theorem State.offerDispatch_frame :
    let t := s.offerDispatch
    t.inReset = s.inReset ∧ t.straps = s.straps ∧ t.initialising = s.initialising ∧ t.fport = s.fport ∧
    t.dport.receive = s.dport.receive ∧ t.link = s.link ∧ t.sources = s.sources ∧ t.tables = s.tables ∧
    t.correlator = s.correlator ∧ t.board = s.board ∧ t.sweep = s.sweep ∧ t.scan = s.scan ∧
    t.notices.evicted = s.notices.evicted ∧ t.notices.dropped = s.notices.dropped ∧ t.storm = s.storm ∧
    t.escalation = s.escalation ∧ t.agent.long = s.agent.long ∧ t.agent.time = s.agent.time ∧
    t.agent.config = s.agent.config ∧ t.agent.mode = s.agent.mode ∧ t.agent.bootFailed = s.agent.bootFailed ∧
    t.agent.bootOrdinal = s.agent.bootOrdinal ∧ t.agent.overruns = s.agent.overruns ∧ t.flash = s.flash ∧
    t.pending = s.pending :=
  by
  simp only [State.offerDispatch]; (repeat' split) <;> simp

/-- What `placeReply` leaves. -/
@[simp] theorem State.placeReply_frame (p : Bytes) :
    let t := s.placeReply p
    t.inReset = s.inReset ∧ t.straps = s.straps ∧ t.initialising = s.initialising ∧ t.fport = s.fport ∧
    t.dport.receive = s.dport.receive ∧ t.link = s.link ∧ t.sources = s.sources ∧ t.tables = s.tables ∧
    t.correlator = s.correlator ∧ t.board = s.board ∧ t.sweep = s.sweep ∧ t.scan = s.scan ∧
    t.notices.evicted = s.notices.evicted ∧ t.notices.dropped = s.notices.dropped ∧ t.storm = s.storm ∧
    t.escalation = s.escalation ∧ t.agent.long = s.agent.long ∧ t.agent.time = s.agent.time ∧
    t.agent.config = s.agent.config ∧ t.agent.mode = s.agent.mode ∧ t.agent.bootFailed = s.agent.bootFailed ∧
    t.agent.bootOrdinal = s.agent.bootOrdinal ∧ t.agent.overruns = s.agent.overruns ∧ t.flash = s.flash ∧
    t.pending = s.pending :=
  by simp [State.placeReply]

/-- What `forwardUp` leaves. -/
@[simp] theorem State.forwardUp_frame (f : Bytes) :
    let t := s.forwardUp f
    t.inReset = s.inReset ∧ t.straps = s.straps ∧ t.initialising = s.initialising ∧ t.fport = s.fport ∧
    t.dport.receive = s.dport.receive ∧ t.link = s.link ∧ t.sources = s.sources ∧ t.tables = s.tables ∧
    t.correlator = s.correlator ∧ t.board = s.board ∧ t.sweep = s.sweep ∧ t.scan = s.scan ∧
    t.notices.evicted = s.notices.evicted ∧ t.notices.dropped = s.notices.dropped ∧ t.storm = s.storm ∧
    t.escalation = s.escalation ∧ t.agent.long = s.agent.long ∧ t.agent.time = s.agent.time ∧
    t.agent.config = s.agent.config ∧ t.agent.mode = s.agent.mode ∧ t.agent.bootFailed = s.agent.bootFailed ∧
    t.agent.bootOrdinal = s.agent.bootOrdinal ∧ t.agent.overruns = s.agent.overruns ∧ t.flash = s.flash ∧
    t.pending = s.pending :=
  by
  simp only [State.forwardUp]; (repeat' split) <;> simp

/-- What `takeDown` leaves. -/
@[simp] theorem State.takeDown_frame :
    let t := s.takeDown
    t.inReset = s.inReset ∧ t.straps = s.straps ∧ t.initialising = s.initialising ∧
    t.fport.lineSignal = s.fport.lineSignal ∧ t.fport.receive = s.fport.receive ∧
    t.fport.counters = s.fport.counters ∧ t.dport = s.dport ∧ t.link = s.link ∧ t.sources = s.sources ∧
    t.tables = s.tables ∧ t.correlator = s.correlator ∧ t.board = s.board ∧ t.sweep = s.sweep ∧ t.scan = s.scan ∧
    t.notices = s.notices ∧ t.storm = s.storm ∧ t.escalation = s.escalation ∧ t.agent = s.agent ∧ t.flash = s.flash ∧
    t.pending = s.pending :=
  by
  simp only [State.takeDown]; (repeat' split) <;> simp

/-- What `forwardDown` leaves. -/
@[simp] theorem State.forwardDown_frame (f : Bytes) :
    let t := s.forwardDown f
    t.inReset = s.inReset ∧ t.straps = s.straps ∧ t.initialising = s.initialising ∧
    t.fport.lineSignal = s.fport.lineSignal ∧ t.fport.receive = s.fport.receive ∧ t.dport = s.dport ∧
    t.link = s.link ∧ t.sources = s.sources ∧ t.tables = s.tables ∧ t.correlator = s.correlator ∧ t.board = s.board ∧
    t.sweep = s.sweep ∧ t.scan = s.scan ∧ t.notices = s.notices ∧ t.storm = s.storm ∧ t.escalation = s.escalation ∧
    t.agent = s.agent ∧ t.flash = s.flash ∧ t.pending = s.pending :=
  by
  simp only [State.forwardDown]; (repeat' split) <;> simp

/-- What `arrive` leaves. -/
@[simp] theorem State.arrive_frame (n : Notice) :
    let t := s.arrive n
    t.inReset = s.inReset ∧ t.straps = s.straps ∧ t.initialising = s.initialising ∧ t.fport = s.fport ∧
    t.dport.receive = s.dport.receive ∧ t.link = s.link ∧ t.sources = s.sources ∧ t.tables = s.tables ∧
    t.correlator = s.correlator ∧ t.board = s.board ∧ t.sweep = s.sweep ∧ t.scan = s.scan ∧ t.storm = s.storm ∧
    t.escalation = s.escalation ∧ t.agent.long = s.agent.long ∧ t.agent.time = s.agent.time ∧
    t.agent.config = s.agent.config ∧ t.agent.mode = s.agent.mode ∧ t.agent.bootFailed = s.agent.bootFailed ∧
    t.agent.bootOrdinal = s.agent.bootOrdinal ∧ t.agent.overruns = s.agent.overruns ∧ t.flash = s.flash ∧
    t.pending = s.pending :=
  by simp [State.arrive]

/-- What `requestAsset` leaves. -/
@[simp] theorem State.requestAsset_frame (k : NoticeKind) (a : Nat) (c : Condition) (v : Severity) (r : Option Nat) (n : Nat) :
    let t := s.requestAsset k a c v r n
    t.inReset = s.inReset ∧ t.straps = s.straps ∧ t.initialising = s.initialising ∧ t.fport = s.fport ∧
    t.dport.receive = s.dport.receive ∧ t.link = s.link ∧ t.sources = s.sources ∧ t.tables = s.tables ∧
    t.correlator = s.correlator ∧ t.board = s.board ∧ t.sweep = s.sweep ∧ t.scan = s.scan ∧ t.storm = s.storm ∧
    t.escalation = s.escalation ∧ t.agent.long = s.agent.long ∧ t.agent.time = s.agent.time ∧
    t.agent.config = s.agent.config ∧ t.agent.mode = s.agent.mode ∧ t.agent.bootFailed = s.agent.bootFailed ∧
    t.agent.bootOrdinal = s.agent.bootOrdinal ∧ t.agent.overruns = s.agent.overruns ∧ t.flash = s.flash ∧
    t.pending = s.pending :=
  by
  simp only [State.requestAsset]; (repeat' split) <;> simp

/-- What `requestFromRecord` leaves. -/
@[simp] theorem State.requestFromRecord_frame (k : NoticeKind) (a n : Nat) :
    let t := s.requestFromRecord k a n
    t.inReset = s.inReset ∧ t.straps = s.straps ∧ t.initialising = s.initialising ∧ t.fport = s.fport ∧
    t.dport.receive = s.dport.receive ∧ t.link = s.link ∧ t.sources = s.sources ∧ t.tables = s.tables ∧
    t.correlator = s.correlator ∧ t.board = s.board ∧ t.sweep = s.sweep ∧ t.scan = s.scan ∧ t.storm = s.storm ∧
    t.escalation = s.escalation ∧ t.agent.long = s.agent.long ∧ t.agent.time = s.agent.time ∧
    t.agent.config = s.agent.config ∧ t.agent.mode = s.agent.mode ∧ t.agent.bootFailed = s.agent.bootFailed ∧
    t.agent.bootOrdinal = s.agent.bootOrdinal ∧ t.agent.overruns = s.agent.overruns ∧ t.flash = s.flash ∧
    t.pending = s.pending :=
  by simp [State.requestFromRecord]

/-- What `offerStorm` leaves. -/
@[simp] theorem State.offerStorm_frame :
    let t := s.offerStorm
    t.inReset = s.inReset ∧ t.straps = s.straps ∧ t.initialising = s.initialising ∧ t.fport = s.fport ∧
    t.dport.receive = s.dport.receive ∧ t.link = s.link ∧ t.sources = s.sources ∧ t.tables = s.tables ∧
    t.correlator = s.correlator ∧ t.board = s.board ∧ t.sweep = s.sweep ∧ t.scan = s.scan ∧
    t.storm.manualFloor = s.storm.manualFloor ∧ t.escalation = s.escalation ∧ t.agent.long = s.agent.long ∧
    t.agent.time = s.agent.time ∧ t.agent.config = s.agent.config ∧ t.agent.mode = s.agent.mode ∧
    t.agent.bootFailed = s.agent.bootFailed ∧ t.agent.bootOrdinal = s.agent.bootOrdinal ∧
    t.agent.overruns = s.agent.overruns ∧ t.flash = s.flash ∧ t.pending = s.pending :=
  by
  simp only [State.offerStorm]; (repeat' split) <;> simp

/-- What `raise` leaves. -/
@[simp] theorem State.raise_frame (c : EscalationContext) :
    let t := s.raise c
    t.inReset = s.inReset ∧ t.straps = s.straps ∧ t.initialising = s.initialising ∧ t.fport = s.fport ∧
    t.dport.receive = s.dport.receive ∧ t.link = s.link ∧ t.sources = s.sources ∧ t.tables = s.tables ∧
    t.correlator = s.correlator ∧ t.board = s.board ∧ t.sweep = s.sweep ∧ t.scan = s.scan ∧ t.storm = s.storm ∧
    t.agent.long = s.agent.long ∧ t.agent.time = s.agent.time ∧ t.agent.config = s.agent.config ∧
    t.agent.mode = s.agent.mode ∧ t.agent.bootFailed = s.agent.bootFailed ∧
    t.agent.bootOrdinal = s.agent.bootOrdinal ∧ t.agent.overruns = s.agent.overruns ∧ t.flash = s.flash ∧
    t.pending = s.pending :=
  by simp [State.raise]

/-- What `offerEscalation` leaves. -/
@[simp] theorem State.offerEscalation_frame (k : NoticeKind) (a : Nat) :
    let t := s.offerEscalation k a
    t.inReset = s.inReset ∧ t.straps = s.straps ∧ t.initialising = s.initialising ∧ t.fport = s.fport ∧
    t.dport.receive = s.dport.receive ∧ t.link = s.link ∧ t.sources = s.sources ∧ t.tables = s.tables ∧
    t.correlator = s.correlator ∧ t.board = s.board ∧ t.sweep = s.sweep ∧ t.scan = s.scan ∧ t.storm = s.storm ∧
    t.agent.long = s.agent.long ∧ t.agent.time = s.agent.time ∧ t.agent.config = s.agent.config ∧
    t.agent.mode = s.agent.mode ∧ t.agent.bootFailed = s.agent.bootFailed ∧
    t.agent.bootOrdinal = s.agent.bootOrdinal ∧ t.agent.overruns = s.agent.overruns ∧ t.flash = s.flash ∧
    t.pending = s.pending :=
  by
  simp only [State.offerEscalation]; (repeat' split) <;> simp

/-- What `stormEnded` leaves. -/
@[simp] theorem State.stormEnded_frame :
    let t := s.stormEnded
    t.inReset = s.inReset ∧ t.straps = s.straps ∧ t.initialising = s.initialising ∧ t.fport = s.fport ∧
    t.dport.receive = s.dport.receive ∧ t.link = s.link ∧ t.sources = s.sources ∧ t.tables = s.tables ∧
    t.correlator = s.correlator ∧ t.board = s.board ∧ t.sweep = s.sweep ∧ t.scan = s.scan ∧ t.storm = s.storm ∧
    t.agent.long = s.agent.long ∧ t.agent.time = s.agent.time ∧ t.agent.config = s.agent.config ∧
    t.agent.mode = s.agent.mode ∧ t.agent.bootFailed = s.agent.bootFailed ∧
    t.agent.bootOrdinal = s.agent.bootOrdinal ∧ t.agent.overruns = s.agent.overruns ∧ t.flash = s.flash ∧
    t.pending = s.pending :=
  by
  simp only [State.stormEnded]; (repeat' split) <;> simp

/-- What `attribute` leaves. -/
@[simp] theorem State.attribute_frame (e r : Nat) :
    let t := s.attribute e r
    t.inReset = s.inReset ∧ t.straps = s.straps ∧ t.initialising = s.initialising ∧ t.fport = s.fport ∧
    t.dport = s.dport ∧ t.link = s.link ∧ t.sources = s.sources ∧ t.tables = s.tables ∧
    t.correlator.state = s.correlator.state ∧ t.correlator.independentCount = s.correlator.independentCount ∧
    t.correlator.resumeTime = s.correlator.resumeTime ∧ t.board = s.board ∧ t.sweep = s.sweep ∧ t.scan = s.scan ∧
    t.notices = s.notices ∧ t.storm = s.storm ∧ t.escalation = s.escalation ∧ t.agent = s.agent ∧ t.flash = s.flash ∧
    t.pending = s.pending :=
  by simp [State.attribute]

/-- What `unattribute` leaves. -/
@[simp] theorem State.unattribute_frame (e : Nat) :
    let t := s.unattribute e
    t.inReset = s.inReset ∧ t.straps = s.straps ∧ t.initialising = s.initialising ∧ t.fport = s.fport ∧
    t.dport = s.dport ∧ t.link = s.link ∧ t.sources = s.sources ∧ t.tables = s.tables ∧
    t.correlator.state = s.correlator.state ∧ t.correlator.independentCount = s.correlator.independentCount ∧
    t.correlator.resumeTime = s.correlator.resumeTime ∧ t.board = s.board ∧ t.sweep = s.sweep ∧ t.scan = s.scan ∧
    t.notices = s.notices ∧ t.storm = s.storm ∧ t.escalation = s.escalation ∧ t.agent = s.agent ∧ t.flash = s.flash ∧
    t.pending = s.pending :=
  by
  simp only [State.unattribute]; (repeat' split) <;> simp

/-- What `join` leaves. -/
@[simp] theorem State.join_frame (a : Nat) :
    let t := s.join a
    t.inReset = s.inReset ∧ t.straps = s.straps ∧ t.initialising = s.initialising ∧ t.fport = s.fport ∧
    t.dport = s.dport ∧ t.link = s.link ∧ t.sources = s.sources ∧ t.tables = s.tables ∧
    t.correlator.state = s.correlator.state ∧ t.correlator.independentCount = s.correlator.independentCount ∧
    t.correlator.resumeTime = s.correlator.resumeTime ∧ t.sweep = s.sweep ∧ t.scan = s.scan ∧ t.notices = s.notices ∧
    t.storm = s.storm ∧ t.escalation = s.escalation ∧ t.agent = s.agent ∧ t.flash = s.flash ∧ t.pending = s.pending :=
  by
  simp only [State.join]; (repeat' split) <;> simp

/-- What `leave` leaves. -/
@[simp] theorem State.leave_frame (a : Nat) :
    let t := s.leave a
    t.inReset = s.inReset ∧ t.straps = s.straps ∧ t.initialising = s.initialising ∧ t.fport = s.fport ∧
    t.dport = s.dport ∧ t.link = s.link ∧ t.sources = s.sources ∧ t.tables = s.tables ∧ t.correlator = s.correlator ∧
    t.sweep.adoptDrops = s.sweep.adoptDrops ∧ t.scan = s.scan ∧ t.notices = s.notices ∧ t.storm = s.storm ∧
    t.escalation = s.escalation ∧ t.agent = s.agent ∧ t.flash = s.flash ∧ t.pending = s.pending :=
  by
  simp only [State.leave]; (repeat' split) <;> simp

/-- What `leaveUnlessListed` leaves. -/
@[simp] theorem State.leaveUnlessListed_frame (a : Nat) :
    let t := s.leaveUnlessListed a
    t.inReset = s.inReset ∧ t.straps = s.straps ∧ t.initialising = s.initialising ∧ t.fport = s.fport ∧
    t.dport = s.dport ∧ t.link = s.link ∧ t.sources = s.sources ∧ t.tables = s.tables ∧ t.correlator = s.correlator ∧
    t.sweep.adoptDrops = s.sweep.adoptDrops ∧ t.scan = s.scan ∧ t.notices = s.notices ∧ t.storm = s.storm ∧
    t.escalation = s.escalation ∧ t.agent = s.agent ∧ t.flash = s.flash ∧ t.pending = s.pending :=
  by
  simp only [State.leaveUnlessListed]; (repeat' split) <;> simp

/-- What `clearLatch` leaves. -/
@[simp] theorem State.clearLatch_frame (a : Nat) :
    let t := s.clearLatch a
    t.inReset = s.inReset ∧ t.straps = s.straps ∧ t.initialising = s.initialising ∧ t.fport = s.fport ∧
    t.dport = s.dport ∧ t.link = s.link ∧ t.sources = s.sources ∧ t.tables = s.tables ∧
    t.correlator.state = s.correlator.state ∧ t.correlator.independentCount = s.correlator.independentCount ∧
    t.correlator.resumeTime = s.correlator.resumeTime ∧ t.sweep.adoptDrops = s.sweep.adoptDrops ∧ t.scan = s.scan ∧
    t.notices = s.notices ∧ t.storm = s.storm ∧ t.escalation = s.escalation ∧ t.agent = s.agent ∧ t.flash = s.flash ∧
    t.pending = s.pending :=
  by simp [State.clearLatch]

/-- What `startFirst` leaves. -/
@[simp] theorem State.startFirst_frame :
    let t := s.startFirst
    t.inReset = s.inReset ∧ t.straps = s.straps ∧ t.initialising = s.initialising ∧ t.fport = s.fport ∧
    t.dport = s.dport ∧ t.link = s.link ∧ t.sources = s.sources ∧ t.tables = s.tables ∧ t.correlator = s.correlator ∧
    t.board = s.board ∧ t.sweep.adoptDrops = s.sweep.adoptDrops ∧ t.scan = s.scan ∧ t.notices = s.notices ∧
    t.storm = s.storm ∧ t.escalation = s.escalation ∧ t.agent = s.agent ∧ t.flash = s.flash ∧ t.pending = s.pending :=
  by
  simp only [State.startFirst]; (repeat' split) <;> simp

/-- What `joinJob` leaves. -/
@[simp] theorem State.joinJob_frame (w : Walk) :
    let t := s.joinJob w
    t.inReset = s.inReset ∧ t.straps = s.straps ∧ t.initialising = s.initialising ∧ t.fport = s.fport ∧
    t.dport = s.dport ∧ t.link = s.link ∧ t.sources = s.sources ∧ t.tables = s.tables ∧ t.correlator = s.correlator ∧
    t.board = s.board ∧ t.sweep.adoptDrops = s.sweep.adoptDrops ∧ t.scan = s.scan ∧ t.notices = s.notices ∧
    t.storm = s.storm ∧ t.escalation = s.escalation ∧ t.agent = s.agent ∧ t.flash = s.flash ∧ t.pending = s.pending :=
  by simp [State.joinJob]

/-- What `removeJob` leaves. -/
@[simp] theorem State.removeJob_frame (w : Walk) :
    let t := s.removeJob w
    t.inReset = s.inReset ∧ t.straps = s.straps ∧ t.initialising = s.initialising ∧ t.fport = s.fport ∧
    t.dport = s.dport ∧ t.link = s.link ∧ t.sources = s.sources ∧ t.tables = s.tables ∧ t.correlator = s.correlator ∧
    t.board = s.board ∧ t.sweep.adoptDrops = s.sweep.adoptDrops ∧ t.scan = s.scan ∧ t.notices = s.notices ∧
    t.storm = s.storm ∧ t.escalation = s.escalation ∧ t.agent = s.agent ∧ t.flash = s.flash ∧ t.pending = s.pending :=
  by simp [State.removeJob]

/-- What `endAdopt` leaves. -/
@[simp] theorem State.endAdopt_frame (r : Nat) :
    let t := s.endAdopt r
    t.inReset = s.inReset ∧ t.straps = s.straps ∧ t.initialising = s.initialising ∧ t.fport = s.fport ∧
    t.dport.receive = s.dport.receive ∧ t.link = s.link ∧ t.sources = s.sources ∧ t.tables = s.tables ∧
    t.correlator = s.correlator ∧ t.board = s.board ∧ t.sweep.adoptDrops = s.sweep.adoptDrops ∧ t.scan = s.scan ∧
    t.storm = s.storm ∧ t.escalation = s.escalation ∧ t.agent.long = s.agent.long ∧ t.agent.time = s.agent.time ∧
    t.agent.config = s.agent.config ∧ t.agent.mode = s.agent.mode ∧ t.agent.bootFailed = s.agent.bootFailed ∧
    t.agent.bootOrdinal = s.agent.bootOrdinal ∧ t.agent.overruns = s.agent.overruns ∧ t.flash = s.flash ∧
    t.pending = s.pending :=
  by
  simp only [State.endAdopt]; (repeat' split) <;> simp

/-- What `cancelRelease` leaves. -/
@[simp] theorem State.cancelRelease_frame (r : Nat) :
    let t := s.cancelRelease r
    t.inReset = s.inReset ∧ t.straps = s.straps ∧ t.initialising = s.initialising ∧ t.fport = s.fport ∧
    t.dport = s.dport ∧ t.link = s.link ∧ t.sources = s.sources ∧ t.tables = s.tables ∧ t.correlator = s.correlator ∧
    t.board = s.board ∧ t.sweep.adoptDrops = s.sweep.adoptDrops ∧ t.scan = s.scan ∧ t.notices = s.notices ∧
    t.storm = s.storm ∧ t.escalation = s.escalation ∧ t.agent = s.agent ∧ t.flash = s.flash ∧ t.pending = s.pending :=
  by
  simp only [State.cancelRelease]; (repeat' split) <;> simp

/-- What `cancelReleaseIfMasking` leaves. -/
@[simp] theorem State.cancelReleaseIfMasking_frame (a : Nat) :
    let t := s.cancelReleaseIfMasking a
    t.inReset = s.inReset ∧ t.straps = s.straps ∧ t.initialising = s.initialising ∧ t.fport = s.fport ∧
    t.dport = s.dport ∧ t.link = s.link ∧ t.sources = s.sources ∧ t.tables = s.tables ∧ t.correlator = s.correlator ∧
    t.board = s.board ∧ t.sweep.adoptDrops = s.sweep.adoptDrops ∧ t.scan = s.scan ∧ t.notices = s.notices ∧
    t.storm = s.storm ∧ t.escalation = s.escalation ∧ t.agent = s.agent ∧ t.flash = s.flash ∧ t.pending = s.pending :=
  by
  simp only [State.cancelReleaseIfMasking]; (repeat' split) <;> simp

/-- What `requestAdopt` leaves. -/
@[simp] theorem State.requestAdopt_frame (r : Nat) :
    let t := s.requestAdopt r
    t.inReset = s.inReset ∧ t.straps = s.straps ∧ t.initialising = s.initialising ∧ t.fport = s.fport ∧
    t.dport = s.dport ∧ t.link = s.link ∧ t.sources = s.sources ∧ t.tables = s.tables ∧ t.correlator = s.correlator ∧
    t.board = s.board ∧ t.scan = s.scan ∧ t.notices = s.notices ∧ t.storm = s.storm ∧ t.escalation = s.escalation ∧
    t.agent = s.agent ∧ t.flash = s.flash ∧ t.pending = s.pending :=
  by
  simp only [State.requestAdopt]; (repeat' split) <;> simp

/-- What `queueRelease` leaves. -/
@[simp] theorem State.queueRelease_frame (r : Nat) :
    let t := s.queueRelease r
    t.inReset = s.inReset ∧ t.straps = s.straps ∧ t.initialising = s.initialising ∧ t.fport = s.fport ∧
    t.dport.receive = s.dport.receive ∧ t.link = s.link ∧ t.sources = s.sources ∧ t.tables = s.tables ∧
    t.correlator = s.correlator ∧ t.board = s.board ∧ t.sweep.adoptDrops = s.sweep.adoptDrops ∧ t.scan = s.scan ∧
    t.storm = s.storm ∧ t.escalation = s.escalation ∧ t.agent.long = s.agent.long ∧ t.agent.time = s.agent.time ∧
    t.agent.config = s.agent.config ∧ t.agent.mode = s.agent.mode ∧ t.agent.bootFailed = s.agent.bootFailed ∧
    t.agent.bootOrdinal = s.agent.bootOrdinal ∧ t.agent.overruns = s.agent.overruns ∧ t.flash = s.flash ∧
    t.pending = s.pending :=
  by
  simp only [State.queueRelease]; (repeat' split) <;> simp

/-- What `queueAck` leaves. -/
@[simp] theorem State.queueAck_frame (z : Option Nat) :
    let t := s.queueAck z
    t.inReset = s.inReset ∧ t.straps = s.straps ∧ t.initialising = s.initialising ∧ t.fport = s.fport ∧
    t.dport = s.dport ∧ t.link = s.link ∧ t.sources = s.sources ∧ t.tables = s.tables ∧ t.correlator = s.correlator ∧
    t.board = s.board ∧ t.sweep.adoptDrops = s.sweep.adoptDrops ∧ t.scan = s.scan ∧ t.notices = s.notices ∧
    t.storm = s.storm ∧ t.escalation = s.escalation ∧ t.agent = s.agent ∧ t.flash = s.flash ∧ t.pending = s.pending :=
  by
  simp only [State.queueAck]; (repeat' split) <;> simp

/-- What `raiseTally` leaves. -/
@[simp] theorem State.raiseTally_frame :
    let t := s.raiseTally
    t.inReset = s.inReset ∧ t.straps = s.straps ∧ t.initialising = s.initialising ∧ t.fport = s.fport ∧
    t.dport = s.dport ∧ t.link = s.link ∧ t.sources = s.sources ∧ t.tables = s.tables ∧ t.correlator = s.correlator ∧
    t.board = s.board ∧ t.sweep.adoptDrops = s.sweep.adoptDrops ∧ t.scan = s.scan ∧ t.notices = s.notices ∧
    t.storm = s.storm ∧ t.escalation = s.escalation ∧ t.agent = s.agent ∧ t.flash = s.flash ∧ t.pending = s.pending :=
  by
  simp only [State.raiseTally]; (repeat' split) <;> simp

/-- What `moveWalk` leaves. -/
@[simp] theorem State.moveWalk_frame (n : Option Nat) :
    let t := s.moveWalk n
    t.inReset = s.inReset ∧ t.straps = s.straps ∧ t.initialising = s.initialising ∧ t.fport = s.fport ∧
    t.dport = s.dport ∧ t.link = s.link ∧ t.sources = s.sources ∧ t.tables = s.tables ∧ t.correlator = s.correlator ∧
    t.board = s.board ∧ t.sweep.adoptDrops = s.sweep.adoptDrops ∧ t.scan = s.scan ∧ t.notices = s.notices ∧
    t.storm = s.storm ∧ t.escalation = s.escalation ∧ t.agent = s.agent ∧ t.flash = s.flash ∧ t.pending = s.pending :=
  by
  simp only [State.moveWalk]; (repeat' split) <;> simp

/-- What `adopt` leaves. -/
@[simp] theorem State.adopt_frame (r e : Nat) :
    let t := s.adopt r e
    t.inReset = s.inReset ∧ t.straps = s.straps ∧ t.initialising = s.initialising ∧ t.fport = s.fport ∧
    t.dport = s.dport ∧ t.link = s.link ∧ t.sources = s.sources ∧ t.tables = s.tables ∧
    t.correlator.state = s.correlator.state ∧ t.correlator.resumeTime = s.correlator.resumeTime ∧ t.board = s.board ∧
    t.sweep.adoptDrops = s.sweep.adoptDrops ∧ t.scan = s.scan ∧ t.notices.evicted = s.notices.evicted ∧
    t.notices.dropped = s.notices.dropped ∧ t.storm = s.storm ∧ t.escalation = s.escalation ∧ t.agent = s.agent ∧
    t.flash = s.flash ∧ t.pending = s.pending :=
  by simp [State.adopt]

/-- What `adoptVisit` leaves. -/
@[simp] theorem State.adoptVisit_frame (r e : Nat) :
    let t := s.adoptVisit r e
    t.inReset = s.inReset ∧ t.straps = s.straps ∧ t.initialising = s.initialising ∧ t.fport = s.fport ∧
    t.dport = s.dport ∧ t.link = s.link ∧ t.sources = s.sources ∧ t.tables = s.tables ∧
    t.correlator.state = s.correlator.state ∧ t.correlator.resumeTime = s.correlator.resumeTime ∧ t.board = s.board ∧
    t.sweep.adoptDrops = s.sweep.adoptDrops ∧ t.scan = s.scan ∧ t.notices.evicted = s.notices.evicted ∧
    t.notices.dropped = s.notices.dropped ∧ t.storm = s.storm ∧ t.escalation = s.escalation ∧ t.agent = s.agent ∧
    t.flash = s.flash ∧ t.pending = s.pending :=
  by
  simp only [State.adoptVisit]; (repeat' split) <;> simp

/-- What `unmask` leaves. -/
@[simp] theorem State.unmask_frame (e : Nat) :
    let t := s.unmask e
    t.inReset = s.inReset ∧ t.straps = s.straps ∧ t.initialising = s.initialising ∧ t.fport = s.fport ∧
    t.dport.receive = s.dport.receive ∧ t.link = s.link ∧ t.sources = s.sources ∧ t.tables = s.tables ∧
    t.correlator.state = s.correlator.state ∧ t.correlator.resumeTime = s.correlator.resumeTime ∧ t.board = s.board ∧
    t.sweep = s.sweep ∧ t.scan = s.scan ∧ t.storm = s.storm ∧ t.escalation = s.escalation ∧
    t.agent.long = s.agent.long ∧ t.agent.time = s.agent.time ∧ t.agent.config = s.agent.config ∧
    t.agent.mode = s.agent.mode ∧ t.agent.bootFailed = s.agent.bootFailed ∧
    t.agent.bootOrdinal = s.agent.bootOrdinal ∧ t.agent.overruns = s.agent.overruns ∧ t.flash = s.flash ∧
    t.pending = s.pending :=
  by simp [State.unmask]

/-- What `releaseVisit` leaves. -/
@[simp] theorem State.releaseVisit_frame (r e : Nat) :
    let t := s.releaseVisit r e
    t.inReset = s.inReset ∧ t.straps = s.straps ∧ t.initialising = s.initialising ∧ t.fport = s.fport ∧
    t.dport.receive = s.dport.receive ∧ t.link = s.link ∧ t.sources = s.sources ∧ t.tables = s.tables ∧
    t.correlator.state = s.correlator.state ∧ t.correlator.resumeTime = s.correlator.resumeTime ∧ t.board = s.board ∧
    t.sweep = s.sweep ∧ t.scan = s.scan ∧ t.storm = s.storm ∧ t.escalation = s.escalation ∧
    t.agent.long = s.agent.long ∧ t.agent.time = s.agent.time ∧ t.agent.config = s.agent.config ∧
    t.agent.mode = s.agent.mode ∧ t.agent.bootFailed = s.agent.bootFailed ∧
    t.agent.bootOrdinal = s.agent.bootOrdinal ∧ t.agent.overruns = s.agent.overruns ∧ t.flash = s.flash ∧
    t.pending = s.pending :=
  by
  simp only [State.releaseVisit]; (repeat' split) <;> simp

/-- What `ackVisit` leaves. -/
@[simp] theorem State.ackVisit_frame (z : Option Nat) (e : Nat) :
    let t := s.ackVisit z e
    t.inReset = s.inReset ∧ t.straps = s.straps ∧ t.initialising = s.initialising ∧ t.fport = s.fport ∧
    t.dport = s.dport ∧ t.link = s.link ∧ t.sources = s.sources ∧ t.tables = s.tables ∧
    t.correlator.state = s.correlator.state ∧ t.correlator.independentCount = s.correlator.independentCount ∧
    t.correlator.resumeTime = s.correlator.resumeTime ∧ t.sweep.adoptDrops = s.sweep.adoptDrops ∧ t.scan = s.scan ∧
    t.notices = s.notices ∧ t.storm = s.storm ∧ t.escalation = s.escalation ∧ t.agent = s.agent ∧ t.flash = s.flash ∧
    t.pending = s.pending :=
  by
  simp only [State.ackVisit]; (repeat' split) <;> simp

/-- What `visit` leaves. -/
@[simp] theorem State.visit_frame (w : Walk) (e : Nat) :
    let t := s.visit w e
    t.inReset = s.inReset ∧ t.straps = s.straps ∧ t.initialising = s.initialising ∧ t.fport = s.fport ∧
    t.dport.receive = s.dport.receive ∧ t.link = s.link ∧ t.sources = s.sources ∧ t.tables = s.tables ∧
    t.correlator.state = s.correlator.state ∧ t.correlator.resumeTime = s.correlator.resumeTime ∧
    t.sweep.adoptDrops = s.sweep.adoptDrops ∧ t.scan = s.scan ∧ t.storm = s.storm ∧ t.escalation = s.escalation ∧
    t.agent.long = s.agent.long ∧ t.agent.time = s.agent.time ∧ t.agent.config = s.agent.config ∧
    t.agent.mode = s.agent.mode ∧ t.agent.bootFailed = s.agent.bootFailed ∧
    t.agent.bootOrdinal = s.agent.bootOrdinal ∧ t.agent.overruns = s.agent.overruns ∧ t.flash = s.flash ∧
    t.pending = s.pending :=
  by
  simp only [State.visit]; (repeat' split) <;> simp

/-- What `endWalk` leaves. -/
@[simp] theorem State.endWalk_frame (w : Walk) :
    let t := s.endWalk w
    t.inReset = s.inReset ∧ t.straps = s.straps ∧ t.initialising = s.initialising ∧ t.fport = s.fport ∧
    t.dport.receive = s.dport.receive ∧ t.link = s.link ∧ t.sources = s.sources ∧ t.tables = s.tables ∧
    t.correlator = s.correlator ∧ t.board = s.board ∧ t.sweep.adoptDrops = s.sweep.adoptDrops ∧ t.scan = s.scan ∧
    t.storm = s.storm ∧ t.escalation = s.escalation ∧ t.agent.long = s.agent.long ∧ t.agent.time = s.agent.time ∧
    t.agent.config = s.agent.config ∧ t.agent.mode = s.agent.mode ∧ t.agent.bootFailed = s.agent.bootFailed ∧
    t.agent.bootOrdinal = s.agent.bootOrdinal ∧ t.agent.overruns = s.agent.overruns ∧ t.flash = s.flash ∧
    t.pending = s.pending :=
  by
  simp only [State.endWalk]; (repeat' split) <;> simp

/-- What `sweepOnce` leaves. -/
@[simp] theorem State.sweepOnce_frame :
    let t := s.sweepOnce
    t.inReset = s.inReset ∧ t.straps = s.straps ∧ t.initialising = s.initialising ∧ t.fport = s.fport ∧
    t.dport.receive = s.dport.receive ∧ t.link = s.link ∧ t.sources = s.sources ∧ t.tables = s.tables ∧
    t.correlator.state = s.correlator.state ∧ t.correlator.resumeTime = s.correlator.resumeTime ∧
    t.sweep.adoptDrops = s.sweep.adoptDrops ∧ t.scan = s.scan ∧ t.storm = s.storm ∧ t.escalation = s.escalation ∧
    t.agent.long = s.agent.long ∧ t.agent.time = s.agent.time ∧ t.agent.config = s.agent.config ∧
    t.agent.mode = s.agent.mode ∧ t.agent.bootFailed = s.agent.bootFailed ∧
    t.agent.bootOrdinal = s.agent.bootOrdinal ∧ t.agent.overruns = s.agent.overruns ∧ t.flash = s.flash ∧
    t.pending = s.pending :=
  by
  simp only [State.sweepOnce]; (repeat' split) <;> simp

/-- What `suppress` leaves. -/
@[simp] theorem State.suppress_frame (a r : Nat) :
    let t := s.suppress a r
    t.inReset = s.inReset ∧ t.straps = s.straps ∧ t.initialising = s.initialising ∧ t.fport = s.fport ∧
    t.dport = s.dport ∧ t.link = s.link ∧ t.sources = s.sources ∧ t.tables = s.tables ∧
    t.correlator.state = s.correlator.state ∧ t.correlator.independentCount = s.correlator.independentCount ∧
    t.correlator.resumeTime = s.correlator.resumeTime ∧ t.sweep = s.sweep ∧ t.scan = s.scan ∧ t.notices = s.notices ∧
    t.storm = s.storm ∧ t.escalation = s.escalation ∧ t.agent = s.agent ∧ t.flash = s.flash ∧ t.pending = s.pending :=
  by simp [State.suppress]

/-- What `requestAdoptIfMasking` leaves. -/
@[simp] theorem State.requestAdoptIfMasking_frame (a : Nat) :
    let t := s.requestAdoptIfMasking a
    t.inReset = s.inReset ∧ t.straps = s.straps ∧ t.initialising = s.initialising ∧ t.fport = s.fport ∧
    t.dport = s.dport ∧ t.link = s.link ∧ t.sources = s.sources ∧ t.tables = s.tables ∧ t.correlator = s.correlator ∧
    t.board = s.board ∧ t.scan = s.scan ∧ t.notices = s.notices ∧ t.storm = s.storm ∧ t.escalation = s.escalation ∧
    t.agent = s.agent ∧ t.flash = s.flash ∧ t.pending = s.pending :=
  by
  simp only [State.requestAdoptIfMasking]; (repeat' split) <;> simp

/-- What `standAlone` leaves. -/
@[simp] theorem State.standAlone_frame (k : NoticeKind) (a : Nat) :
    let t := s.standAlone k a
    t.inReset = s.inReset ∧ t.straps = s.straps ∧ t.initialising = s.initialising ∧ t.fport = s.fport ∧
    t.dport.receive = s.dport.receive ∧ t.link = s.link ∧ t.sources = s.sources ∧ t.tables = s.tables ∧
    t.correlator.state = s.correlator.state ∧ t.correlator.resumeTime = s.correlator.resumeTime ∧ t.scan = s.scan ∧
    t.storm.manualFloor = s.storm.manualFloor ∧ t.agent.long = s.agent.long ∧ t.agent.time = s.agent.time ∧
    t.agent.config = s.agent.config ∧ t.agent.mode = s.agent.mode ∧ t.agent.bootFailed = s.agent.bootFailed ∧
    t.agent.bootOrdinal = s.agent.bootOrdinal ∧ t.agent.overruns = s.agent.overruns ∧ t.flash = s.flash ∧
    t.pending = s.pending :=
  by simp [State.standAlone]

/-- What `enterFault` leaves. -/
@[simp] theorem State.enterFault_frame (a : Nat) (c : Condition) (v : Severity) :
    let t := s.enterFault a c v
    t.inReset = s.inReset ∧ t.straps = s.straps ∧ t.initialising = s.initialising ∧ t.fport = s.fport ∧
    t.dport = s.dport ∧ t.link = s.link ∧ t.sources = s.sources ∧ t.tables = s.tables ∧
    t.correlator.state = s.correlator.state ∧ t.correlator.independentCount = s.correlator.independentCount ∧
    t.correlator.resumeTime = s.correlator.resumeTime ∧ t.board = s.board ∧ t.sweep.adoptDrops = s.sweep.adoptDrops ∧
    t.scan = s.scan ∧ t.notices = s.notices ∧ t.storm = s.storm ∧ t.escalation = s.escalation ∧ t.agent = s.agent ∧
    t.flash = s.flash ∧ t.pending = s.pending :=
  by simp [State.enterFault]

/-- What `qualify` leaves. -/
@[simp] theorem State.qualify_frame (a : Nat) (c : Condition) (v : Severity) (k : NoticeKind) :
    let t := s.qualify a c v k
    t.inReset = s.inReset ∧ t.straps = s.straps ∧ t.initialising = s.initialising ∧ t.fport = s.fport ∧
    t.dport.receive = s.dport.receive ∧ t.link = s.link ∧ t.sources = s.sources ∧ t.tables = s.tables ∧
    t.correlator.state = s.correlator.state ∧ t.correlator.resumeTime = s.correlator.resumeTime ∧ t.scan = s.scan ∧
    t.storm.manualFloor = s.storm.manualFloor ∧ t.agent.long = s.agent.long ∧ t.agent.time = s.agent.time ∧
    t.agent.config = s.agent.config ∧ t.agent.mode = s.agent.mode ∧ t.agent.bootFailed = s.agent.bootFailed ∧
    t.agent.bootOrdinal = s.agent.bootOrdinal ∧ t.agent.overruns = s.agent.overruns ∧ t.flash = s.flash ∧
    t.pending = s.pending :=
  by
  simp only [State.qualify]; (repeat' split) <;> simp

/-- What `settleRestored` leaves. -/
@[simp] theorem State.settleRestored_frame (a : Nat) (v : Severity) (n : Nat) (b : Bool) :
    let t := s.settleRestored a v n b
    t.inReset = s.inReset ∧ t.straps = s.straps ∧ t.initialising = s.initialising ∧ t.fport = s.fport ∧
    t.dport.receive = s.dport.receive ∧ t.link = s.link ∧ t.sources = s.sources ∧ t.tables = s.tables ∧
    t.correlator.state = s.correlator.state ∧ t.correlator.resumeTime = s.correlator.resumeTime ∧ t.board = s.board ∧
    t.sweep = s.sweep ∧ t.scan = s.scan ∧ t.storm = s.storm ∧ t.escalation = s.escalation ∧
    t.agent.long = s.agent.long ∧ t.agent.time = s.agent.time ∧ t.agent.config = s.agent.config ∧
    t.agent.mode = s.agent.mode ∧ t.agent.bootFailed = s.agent.bootFailed ∧
    t.agent.bootOrdinal = s.agent.bootOrdinal ∧ t.agent.overruns = s.agent.overruns ∧ t.flash = s.flash ∧
    t.pending = s.pending :=
  by
  simp only [State.settleRestored]; (repeat' split) <;> simp

/-- What `restore` leaves. -/
@[simp] theorem State.restore_frame (a : Nat) :
    let t := s.restore a
    t.inReset = s.inReset ∧ t.straps = s.straps ∧ t.initialising = s.initialising ∧ t.fport = s.fport ∧
    t.dport.receive = s.dport.receive ∧ t.link = s.link ∧ t.sources = s.sources ∧ t.tables = s.tables ∧
    t.correlator.state = s.correlator.state ∧ t.correlator.resumeTime = s.correlator.resumeTime ∧
    t.sweep.adoptDrops = s.sweep.adoptDrops ∧ t.scan = s.scan ∧ t.storm = s.storm ∧ t.escalation = s.escalation ∧
    t.agent.long = s.agent.long ∧ t.agent.time = s.agent.time ∧ t.agent.config = s.agent.config ∧
    t.agent.mode = s.agent.mode ∧ t.agent.bootFailed = s.agent.bootFailed ∧
    t.agent.bootOrdinal = s.agent.bootOrdinal ∧ t.agent.overruns = s.agent.overruns ∧ t.flash = s.flash ∧
    t.pending = s.pending :=
  by
  simp only [State.restore]; (repeat' split) <;> simp

/-- What `attemptRestore` leaves. -/
@[simp] theorem State.attemptRestore_frame (a : Nat) :
    let t := s.attemptRestore a
    t.inReset = s.inReset ∧ t.straps = s.straps ∧ t.initialising = s.initialising ∧ t.fport = s.fport ∧
    t.dport.receive = s.dport.receive ∧ t.link = s.link ∧ t.sources = s.sources ∧ t.tables = s.tables ∧
    t.correlator.state = s.correlator.state ∧ t.correlator.resumeTime = s.correlator.resumeTime ∧
    t.sweep.adoptDrops = s.sweep.adoptDrops ∧ t.scan = s.scan ∧ t.storm = s.storm ∧ t.escalation = s.escalation ∧
    t.agent.long = s.agent.long ∧ t.agent.time = s.agent.time ∧ t.agent.config = s.agent.config ∧
    t.agent.mode = s.agent.mode ∧ t.agent.bootFailed = s.agent.bootFailed ∧
    t.agent.bootOrdinal = s.agent.bootOrdinal ∧ t.agent.overruns = s.agent.overruns ∧ t.flash = s.flash ∧
    t.pending = s.pending :=
  by
  simp only [State.attemptRestore]; (repeat' split) <;> simp

/-- What `scoreFlap` leaves. -/
@[simp] theorem State.scoreFlap_frame (a : Nat) (v : Status) :
    let t := s.scoreFlap a v
    t.inReset = s.inReset ∧ t.straps = s.straps ∧ t.initialising = s.initialising ∧ t.fport = s.fport ∧
    t.dport.receive = s.dport.receive ∧ t.link = s.link ∧ t.sources = s.sources ∧ t.tables = s.tables ∧
    t.correlator.state = s.correlator.state ∧ t.correlator.independentCount = s.correlator.independentCount ∧
    t.correlator.resumeTime = s.correlator.resumeTime ∧ t.board = s.board ∧ t.sweep = s.sweep ∧ t.scan = s.scan ∧
    t.storm = s.storm ∧ t.escalation = s.escalation ∧ t.agent.long = s.agent.long ∧ t.agent.time = s.agent.time ∧
    t.agent.config = s.agent.config ∧ t.agent.mode = s.agent.mode ∧ t.agent.bootFailed = s.agent.bootFailed ∧
    t.agent.bootOrdinal = s.agent.bootOrdinal ∧ t.agent.overruns = s.agent.overruns ∧ t.flash = s.flash ∧
    t.pending = s.pending :=
  by
  simp only [State.scoreFlap]; (repeat' split) <;> simp

/-- What `takeSeverity` leaves. -/
@[simp] theorem State.takeSeverity_frame (a : Nat) (v : Severity) :
    let t := s.takeSeverity a v
    t.inReset = s.inReset ∧ t.straps = s.straps ∧ t.initialising = s.initialising ∧ t.fport = s.fport ∧
    t.dport.receive = s.dport.receive ∧ t.link = s.link ∧ t.sources = s.sources ∧ t.tables = s.tables ∧
    t.correlator.state = s.correlator.state ∧ t.correlator.independentCount = s.correlator.independentCount ∧
    t.correlator.resumeTime = s.correlator.resumeTime ∧ t.board = s.board ∧ t.sweep = s.sweep ∧ t.scan = s.scan ∧
    t.storm = s.storm ∧ t.escalation = s.escalation ∧ t.agent.long = s.agent.long ∧ t.agent.time = s.agent.time ∧
    t.agent.config = s.agent.config ∧ t.agent.mode = s.agent.mode ∧ t.agent.bootFailed = s.agent.bootFailed ∧
    t.agent.bootOrdinal = s.agent.bootOrdinal ∧ t.agent.overruns = s.agent.overruns ∧ t.flash = s.flash ∧
    t.pending = s.pending :=
  by
  simp only [State.takeSeverity]; (repeat' split) <;> simp

/-- What `suspect` leaves. -/
@[simp] theorem State.suspect_frame (a n : Nat) (v : Severity) :
    let t := s.suspect a n v
    t.inReset = s.inReset ∧ t.straps = s.straps ∧ t.initialising = s.initialising ∧ t.fport = s.fport ∧
    t.dport.receive = s.dport.receive ∧ t.link = s.link ∧ t.sources = s.sources ∧ t.tables = s.tables ∧
    t.correlator.state = s.correlator.state ∧ t.correlator.resumeTime = s.correlator.resumeTime ∧ t.scan = s.scan ∧
    t.storm.manualFloor = s.storm.manualFloor ∧ t.agent.long = s.agent.long ∧ t.agent.time = s.agent.time ∧
    t.agent.config = s.agent.config ∧ t.agent.mode = s.agent.mode ∧ t.agent.bootFailed = s.agent.bootFailed ∧
    t.agent.bootOrdinal = s.agent.bootOrdinal ∧ t.agent.overruns = s.agent.overruns ∧ t.flash = s.flash ∧
    t.pending = s.pending :=
  by
  simp only [State.suspect]; (repeat' split) <;> simp

/-- What `recover` leaves. -/
@[simp] theorem State.recover_frame (a n : Nat) :
    let t := s.recover a n
    t.inReset = s.inReset ∧ t.straps = s.straps ∧ t.initialising = s.initialising ∧ t.fport = s.fport ∧
    t.dport.receive = s.dport.receive ∧ t.link = s.link ∧ t.sources = s.sources ∧ t.tables = s.tables ∧
    t.correlator.state = s.correlator.state ∧ t.correlator.resumeTime = s.correlator.resumeTime ∧
    t.sweep.adoptDrops = s.sweep.adoptDrops ∧ t.scan = s.scan ∧ t.storm = s.storm ∧ t.escalation = s.escalation ∧
    t.agent.long = s.agent.long ∧ t.agent.time = s.agent.time ∧ t.agent.config = s.agent.config ∧
    t.agent.mode = s.agent.mode ∧ t.agent.bootFailed = s.agent.bootFailed ∧
    t.agent.bootOrdinal = s.agent.bootOrdinal ∧ t.agent.overruns = s.agent.overruns ∧ t.flash = s.flash ∧
    t.pending = s.pending :=
  by
  simp only [State.recover]; (repeat' split) <;> simp

/-- What `machineOk` leaves. -/
@[simp] theorem State.machineOk_frame (a : Nat) :
    let t := s.machineOk a
    t.inReset = s.inReset ∧ t.straps = s.straps ∧ t.initialising = s.initialising ∧ t.fport = s.fport ∧
    t.dport.receive = s.dport.receive ∧ t.link = s.link ∧ t.sources = s.sources ∧ t.tables = s.tables ∧
    t.correlator.state = s.correlator.state ∧ t.correlator.resumeTime = s.correlator.resumeTime ∧
    t.sweep.adoptDrops = s.sweep.adoptDrops ∧ t.scan = s.scan ∧ t.storm = s.storm ∧ t.escalation = s.escalation ∧
    t.agent.long = s.agent.long ∧ t.agent.time = s.agent.time ∧ t.agent.config = s.agent.config ∧
    t.agent.mode = s.agent.mode ∧ t.agent.bootFailed = s.agent.bootFailed ∧
    t.agent.bootOrdinal = s.agent.bootOrdinal ∧ t.agent.overruns = s.agent.overruns ∧ t.flash = s.flash ∧
    t.pending = s.pending :=
  by
  simp only [State.machineOk]; (repeat' split) <;> simp

/-- What `machineNotOk` leaves. -/
@[simp] theorem State.machineNotOk_frame (a : Nat) (v : Severity) :
    let t := s.machineNotOk a v
    t.inReset = s.inReset ∧ t.straps = s.straps ∧ t.initialising = s.initialising ∧ t.fport = s.fport ∧
    t.dport.receive = s.dport.receive ∧ t.link = s.link ∧ t.sources = s.sources ∧ t.tables = s.tables ∧
    t.correlator.state = s.correlator.state ∧ t.correlator.resumeTime = s.correlator.resumeTime ∧ t.scan = s.scan ∧
    t.storm.manualFloor = s.storm.manualFloor ∧ t.agent.long = s.agent.long ∧ t.agent.time = s.agent.time ∧
    t.agent.config = s.agent.config ∧ t.agent.mode = s.agent.mode ∧ t.agent.bootFailed = s.agent.bootFailed ∧
    t.agent.bootOrdinal = s.agent.bootOrdinal ∧ t.agent.overruns = s.agent.overruns ∧ t.flash = s.flash ∧
    t.pending = s.pending :=
  by
  simp only [State.machineNotOk]; (repeat' split) <;> simp

/-- What `runMachine` leaves. -/
@[simp] theorem State.runMachine_frame (a : Nat) (v : Status) :
    let t := s.runMachine a v
    t.inReset = s.inReset ∧ t.straps = s.straps ∧ t.initialising = s.initialising ∧ t.fport = s.fport ∧
    t.dport.receive = s.dport.receive ∧ t.link = s.link ∧ t.sources = s.sources ∧ t.tables = s.tables ∧
    t.correlator.state = s.correlator.state ∧ t.correlator.resumeTime = s.correlator.resumeTime ∧ t.scan = s.scan ∧
    t.storm.manualFloor = s.storm.manualFloor ∧ t.agent.long = s.agent.long ∧ t.agent.time = s.agent.time ∧
    t.agent.config = s.agent.config ∧ t.agent.mode = s.agent.mode ∧ t.agent.bootFailed = s.agent.bootFailed ∧
    t.agent.bootOrdinal = s.agent.bootOrdinal ∧ t.agent.overruns = s.agent.overruns ∧ t.flash = s.flash ∧
    t.pending = s.pending :=
  by
  simp only [State.runMachine]; (repeat' split) <;> simp

/-- What `judgeItem` leaves. -/
@[simp] theorem State.judgeItem_frame (a : Nat) (v : Status) :
    let t := s.judgeItem a v
    t.inReset = s.inReset ∧ t.straps = s.straps ∧ t.initialising = s.initialising ∧ t.fport = s.fport ∧
    t.dport.receive = s.dport.receive ∧ t.link = s.link ∧ t.sources = s.sources ∧ t.tables = s.tables ∧
    t.correlator.state = s.correlator.state ∧ t.correlator.resumeTime = s.correlator.resumeTime ∧ t.scan = s.scan ∧
    t.storm.manualFloor = s.storm.manualFloor ∧ t.agent.long = s.agent.long ∧ t.agent.time = s.agent.time ∧
    t.agent.config = s.agent.config ∧ t.agent.mode = s.agent.mode ∧ t.agent.bootFailed = s.agent.bootFailed ∧
    t.agent.bootOrdinal = s.agent.bootOrdinal ∧ t.agent.overruns = s.agent.overruns ∧ t.flash = s.flash ∧
    t.pending = s.pending :=
  by
  simp only [State.judgeItem]; (repeat' split) <;> simp

/-- What `processItem` leaves. -/
@[simp] theorem State.processItem_frame (a : Nat) (i : Item) (v : Status) (n : Nat) :
    let t := s.processItem a i v n
    t.inReset = s.inReset ∧ t.straps = s.straps ∧ t.initialising = s.initialising ∧ t.fport = s.fport ∧
    t.dport.receive = s.dport.receive ∧ t.link = s.link ∧ t.sources.due = s.sources.due ∧ t.tables = s.tables ∧
    t.correlator.state = s.correlator.state ∧ t.correlator.resumeTime = s.correlator.resumeTime ∧ t.scan = s.scan ∧
    t.storm.manualFloor = s.storm.manualFloor ∧ t.agent.long = s.agent.long ∧ t.agent.time = s.agent.time ∧
    t.agent.config = s.agent.config ∧ t.agent.mode = s.agent.mode ∧ t.agent.bootFailed = s.agent.bootFailed ∧
    t.agent.bootOrdinal = s.agent.bootOrdinal ∧ t.agent.overruns = s.agent.overruns ∧ t.flash = s.flash ∧
    t.pending = s.pending :=
  by
  simp only [State.processItem]; (repeat' split) <;> simp

/-- What `silenceStanding` leaves. -/
@[simp] theorem State.silenceStanding_frame (a : Nat) :
    let t := s.silenceStanding a
    t.inReset = s.inReset ∧ t.straps = s.straps ∧ t.initialising = s.initialising ∧ t.fport = s.fport ∧
    t.dport.receive = s.dport.receive ∧ t.link = s.link ∧ t.sources = s.sources ∧ t.tables = s.tables ∧
    t.correlator.state = s.correlator.state ∧ t.correlator.independentCount = s.correlator.independentCount ∧
    t.correlator.resumeTime = s.correlator.resumeTime ∧ t.board = s.board ∧ t.sweep = s.sweep ∧ t.scan = s.scan ∧
    t.storm = s.storm ∧ t.escalation = s.escalation ∧ t.agent.long = s.agent.long ∧ t.agent.time = s.agent.time ∧
    t.agent.config = s.agent.config ∧ t.agent.mode = s.agent.mode ∧ t.agent.bootFailed = s.agent.bootFailed ∧
    t.agent.bootOrdinal = s.agent.bootOrdinal ∧ t.agent.overruns = s.agent.overruns ∧ t.flash = s.flash ∧
    t.pending = s.pending :=
  by
  simp only [State.silenceStanding]; (repeat' split) <;> simp

/-- What `goSilent` leaves. -/
@[simp] theorem State.goSilent_frame (a : Nat) :
    let t := s.goSilent a
    t.inReset = s.inReset ∧ t.straps = s.straps ∧ t.initialising = s.initialising ∧ t.fport = s.fport ∧
    t.dport.receive = s.dport.receive ∧ t.link = s.link ∧ t.sources = s.sources ∧ t.tables = s.tables ∧
    t.correlator.state = s.correlator.state ∧ t.correlator.resumeTime = s.correlator.resumeTime ∧ t.scan = s.scan ∧
    t.storm.manualFloor = s.storm.manualFloor ∧ t.agent.long = s.agent.long ∧ t.agent.time = s.agent.time ∧
    t.agent.config = s.agent.config ∧ t.agent.mode = s.agent.mode ∧ t.agent.bootFailed = s.agent.bootFailed ∧
    t.agent.bootOrdinal = s.agent.bootOrdinal ∧ t.agent.overruns = s.agent.overruns ∧ t.flash = s.flash ∧
    t.pending = s.pending :=
  by
  simp only [State.goSilent]; (repeat' split) <;> simp

/-- What `scanOnce` leaves. -/
@[simp] theorem State.scanOnce_frame :
    let t := s.scanOnce
    t.inReset = s.inReset ∧ t.straps = s.straps ∧ t.initialising = s.initialising ∧ t.fport = s.fport ∧
    t.dport.receive = s.dport.receive ∧ t.link = s.link ∧ t.sources = s.sources ∧ t.tables = s.tables ∧
    t.correlator.state = s.correlator.state ∧ t.correlator.resumeTime = s.correlator.resumeTime ∧
    t.storm.manualFloor = s.storm.manualFloor ∧ t.agent.long = s.agent.long ∧ t.agent.time = s.agent.time ∧
    t.agent.config = s.agent.config ∧ t.agent.mode = s.agent.mode ∧ t.agent.bootFailed = s.agent.bootFailed ∧
    t.agent.bootOrdinal = s.agent.bootOrdinal ∧ t.agent.overruns = s.agent.overruns ∧ t.flash = s.flash ∧
    t.pending = s.pending :=
  by
  simp only [State.scanOnce]; (repeat' split) <;> simp

/-- What `enterPass` leaves. -/
@[simp] theorem State.enterPass_frame :
    let t := s.enterPass
    t.inReset = s.inReset ∧ t.straps = s.straps ∧ t.initialising = s.initialising ∧ t.fport = s.fport ∧
    t.dport.receive = s.dport.receive ∧ t.link.lastGood = s.link.lastGood ∧ t.sources.due = s.sources.due ∧
    t.tables = s.tables ∧ t.correlator.state = s.correlator.state ∧ t.correlator.records = s.correlator.records ∧
    t.correlator.independentCount = s.correlator.independentCount ∧ t.board = s.board ∧ t.sweep = s.sweep ∧
    t.scan = s.scan ∧ t.storm = s.storm ∧ t.escalation = s.escalation ∧ t.agent.long = s.agent.long ∧
    t.agent.time = s.agent.time ∧ t.agent.config = s.agent.config ∧ t.agent.mode = s.agent.mode ∧
    t.agent.bootFailed = s.agent.bootFailed ∧ t.agent.bootOrdinal = s.agent.bootOrdinal ∧
    t.agent.overruns = s.agent.overruns ∧ t.flash = s.flash ∧ t.pending = s.pending :=
  by simp [State.enterPass]

/-- What `leavePass` leaves. -/
@[simp] theorem State.leavePass_frame (n : LinkState) :
    let t := s.leavePass n
    t.inReset = s.inReset ∧ t.straps = s.straps ∧ t.initialising = s.initialising ∧ t.fport = s.fport ∧
    t.dport.receive = s.dport.receive ∧ t.link.lastGood = s.link.lastGood ∧ t.link.passedAt = s.link.passedAt ∧
    t.sources = s.sources ∧ t.tables = s.tables ∧ t.correlator = s.correlator ∧ t.board = s.board ∧
    t.sweep = s.sweep ∧ t.scan = s.scan ∧ t.storm = s.storm ∧ t.escalation = s.escalation ∧
    t.agent.long = s.agent.long ∧ t.agent.time = s.agent.time ∧ t.agent.config = s.agent.config ∧
    t.agent.mode = s.agent.mode ∧ t.agent.bootFailed = s.agent.bootFailed ∧
    t.agent.bootOrdinal = s.agent.bootOrdinal ∧ t.agent.overruns = s.agent.overruns ∧ t.flash = s.flash ∧
    t.pending = s.pending :=
  by simp [State.leavePass]

/-- What `passIfRun` leaves. -/
@[simp] theorem State.passIfRun_frame :
    let t := s.passIfRun
    t.inReset = s.inReset ∧ t.straps = s.straps ∧ t.initialising = s.initialising ∧ t.fport = s.fport ∧
    t.dport.receive = s.dport.receive ∧ t.link.lastGood = s.link.lastGood ∧ t.sources.due = s.sources.due ∧
    t.tables = s.tables ∧ t.correlator.state = s.correlator.state ∧ t.correlator.records = s.correlator.records ∧
    t.correlator.independentCount = s.correlator.independentCount ∧ t.board = s.board ∧ t.sweep = s.sweep ∧
    t.scan = s.scan ∧ t.storm = s.storm ∧ t.escalation = s.escalation ∧ t.agent.long = s.agent.long ∧
    t.agent.time = s.agent.time ∧ t.agent.config = s.agent.config ∧ t.agent.mode = s.agent.mode ∧
    t.agent.bootFailed = s.agent.bootFailed ∧ t.agent.bootOrdinal = s.agent.bootOrdinal ∧
    t.agent.overruns = s.agent.overruns ∧ t.flash = s.flash ∧ t.pending = s.pending :=
  by
  simp only [State.passIfRun]; (repeat' split) <;> simp

/-- What `qualifyLink` leaves. -/
@[simp] theorem State.qualifyLink_frame (j : Judgement) :
    let t := s.qualifyLink j
    t.inReset = s.inReset ∧ t.straps = s.straps ∧ t.initialising = s.initialising ∧ t.fport = s.fport ∧
    t.dport.receive = s.dport.receive ∧ t.sources.due = s.sources.due ∧ t.tables = s.tables ∧
    t.correlator.state = s.correlator.state ∧ t.correlator.records = s.correlator.records ∧
    t.correlator.independentCount = s.correlator.independentCount ∧ t.board = s.board ∧ t.sweep = s.sweep ∧
    t.scan = s.scan ∧ t.storm = s.storm ∧ t.escalation = s.escalation ∧ t.agent.long = s.agent.long ∧
    t.agent.time = s.agent.time ∧ t.agent.config = s.agent.config ∧ t.agent.mode = s.agent.mode ∧
    t.agent.bootFailed = s.agent.bootFailed ∧ t.agent.bootOrdinal = s.agent.bootOrdinal ∧
    t.agent.overruns = s.agent.overruns ∧ t.flash = s.flash ∧ t.pending = s.pending :=
  by
  simp only [State.qualifyLink]; (repeat' split) <;> simp

/-- What `silenceSource` leaves. -/
@[simp] theorem State.silenceSource_frame (n : Nat) :
    let t := s.silenceSource n
    t.inReset = s.inReset ∧ t.straps = s.straps ∧ t.initialising = s.initialising ∧ t.fport = s.fport ∧
    t.dport.receive = s.dport.receive ∧ t.link = s.link ∧ t.sources.due = s.sources.due ∧ t.tables = s.tables ∧
    t.correlator = s.correlator ∧ t.board = s.board ∧ t.sweep = s.sweep ∧ t.scan = s.scan ∧ t.storm = s.storm ∧
    t.escalation = s.escalation ∧ t.agent.long = s.agent.long ∧ t.agent.time = s.agent.time ∧
    t.agent.config = s.agent.config ∧ t.agent.mode = s.agent.mode ∧ t.agent.bootFailed = s.agent.bootFailed ∧
    t.agent.bootOrdinal = s.agent.bootOrdinal ∧ t.agent.overruns = s.agent.overruns ∧ t.flash = s.flash ∧
    t.pending = s.pending :=
  by simp [State.silenceSource]

/-- What `takeItem` leaves. -/
@[simp] theorem State.takeItem_frame (n c : Nat) (i : Item) :
    let t := s.takeItem n c i
    t.inReset = s.inReset ∧ t.straps = s.straps ∧ t.initialising = s.initialising ∧ t.fport = s.fport ∧
    t.dport.receive = s.dport.receive ∧ t.link = s.link ∧ t.sources.due = s.sources.due ∧ t.tables = s.tables ∧
    t.correlator.state = s.correlator.state ∧ t.correlator.resumeTime = s.correlator.resumeTime ∧ t.scan = s.scan ∧
    t.storm.manualFloor = s.storm.manualFloor ∧ t.agent.long = s.agent.long ∧ t.agent.time = s.agent.time ∧
    t.agent.config = s.agent.config ∧ t.agent.mode = s.agent.mode ∧ t.agent.bootFailed = s.agent.bootFailed ∧
    t.agent.bootOrdinal = s.agent.bootOrdinal ∧ t.agent.overruns = s.agent.overruns ∧ t.flash = s.flash ∧
    t.pending = s.pending :=
  by
  simp only [State.takeItem]; (repeat' split) <;> simp

/-- What `takeItems` leaves. -/
@[simp] theorem State.takeItems_frame (n c : Nat) (is : List Item) :
    let t := s.takeItems n c is
    t.inReset = s.inReset ∧ t.straps = s.straps ∧ t.initialising = s.initialising ∧ t.fport = s.fport ∧
    t.dport.receive = s.dport.receive ∧ t.link = s.link ∧ t.sources.due = s.sources.due ∧ t.tables = s.tables ∧
    t.correlator.state = s.correlator.state ∧ t.correlator.resumeTime = s.correlator.resumeTime ∧ t.scan = s.scan ∧
    t.storm.manualFloor = s.storm.manualFloor ∧ t.agent.long = s.agent.long ∧ t.agent.time = s.agent.time ∧
    t.agent.config = s.agent.config ∧ t.agent.mode = s.agent.mode ∧ t.agent.bootFailed = s.agent.bootFailed ∧
    t.agent.bootOrdinal = s.agent.bootOrdinal ∧ t.agent.overruns = s.agent.overruns ∧ t.flash = s.flash ∧
    t.pending = s.pending :=
  by
  induction is generalizing s with
  | nil => simp [State.takeItems]
  | cons i is ih => simp [State.takeItems, ih]

/-- What `acceptReport` leaves. -/
@[simp] theorem State.acceptReport_frame (n q : Nat) :
    let t := s.acceptReport n q
    t.inReset = s.inReset ∧ t.straps = s.straps ∧ t.initialising = s.initialising ∧ t.fport = s.fport ∧
    t.dport.receive = s.dport.receive ∧ t.link = s.link ∧ t.sources.due = s.sources.due ∧ t.tables = s.tables ∧
    t.correlator = s.correlator ∧ t.board = s.board ∧ t.sweep = s.sweep ∧ t.scan = s.scan ∧ t.storm = s.storm ∧
    t.escalation = s.escalation ∧ t.agent.long = s.agent.long ∧ t.agent.time = s.agent.time ∧
    t.agent.config = s.agent.config ∧ t.agent.mode = s.agent.mode ∧ t.agent.bootFailed = s.agent.bootFailed ∧
    t.agent.bootOrdinal = s.agent.bootOrdinal ∧ t.agent.overruns = s.agent.overruns ∧ t.flash = s.flash ∧
    t.pending = s.pending :=
  by
  simp only [State.acceptReport]; (repeat' split) <;> simp

/-- What `takeReport` leaves. -/
@[simp] theorem State.takeReport_frame (f : Bytes) :
    let t := s.takeReport f
    t.inReset = s.inReset ∧ t.straps = s.straps ∧ t.initialising = s.initialising ∧ t.fport = s.fport ∧
    t.dport.receive = s.dport.receive ∧ t.link = s.link ∧ t.sources.due = s.sources.due ∧ t.tables = s.tables ∧
    t.correlator.state = s.correlator.state ∧ t.correlator.resumeTime = s.correlator.resumeTime ∧ t.scan = s.scan ∧
    t.storm.manualFloor = s.storm.manualFloor ∧ t.agent.long = s.agent.long ∧ t.agent.time = s.agent.time ∧
    t.agent.config = s.agent.config ∧ t.agent.mode = s.agent.mode ∧ t.agent.bootFailed = s.agent.bootFailed ∧
    t.agent.bootOrdinal = s.agent.bootOrdinal ∧ t.agent.overruns = s.agent.overruns ∧ t.flash = s.flash ∧
    t.pending = s.pending :=
  by
  simp only [State.takeReport]; (repeat' split) <;> simp

/-- What `correlateReport` leaves. -/
@[simp] theorem State.correlateReport_frame (f : Bytes) :
    let t := s.correlateReport f
    t.inReset = s.inReset ∧ t.straps = s.straps ∧ t.initialising = s.initialising ∧
    t.fport.lineSignal = s.fport.lineSignal ∧ t.fport.receive = s.fport.receive ∧ t.fport.down = s.fport.down ∧
    t.fport.sending = s.fport.sending ∧ t.dport.receive = s.dport.receive ∧ t.link = s.link ∧
    t.sources.due = s.sources.due ∧ t.tables = s.tables ∧ t.correlator.state = s.correlator.state ∧
    t.correlator.resumeTime = s.correlator.resumeTime ∧ t.scan = s.scan ∧ t.storm.manualFloor = s.storm.manualFloor ∧
    t.agent.long = s.agent.long ∧ t.agent.time = s.agent.time ∧ t.agent.config = s.agent.config ∧
    t.agent.mode = s.agent.mode ∧ t.agent.bootFailed = s.agent.bootFailed ∧
    t.agent.bootOrdinal = s.agent.bootOrdinal ∧ t.agent.overruns = s.agent.overruns ∧ t.flash = s.flash ∧
    t.pending = s.pending :=
  by
  simp only [State.correlateReport]; (repeat' split) <;> simp

/-- What `countField` leaves. -/
@[simp] theorem State.countField_frame (f : Bytes) (j : Judgement) :
    let t := s.countField f j
    t.inReset = s.inReset ∧ t.straps = s.straps ∧ t.initialising = s.initialising ∧
    t.fport.lineSignal = s.fport.lineSignal ∧ t.fport.down = s.fport.down ∧ t.fport.sending = s.fport.sending ∧
    t.dport = s.dport ∧ t.link = s.link ∧ t.sources = s.sources ∧ t.tables = s.tables ∧ t.correlator = s.correlator ∧
    t.board = s.board ∧ t.sweep = s.sweep ∧ t.scan = s.scan ∧ t.notices = s.notices ∧ t.storm = s.storm ∧
    t.escalation = s.escalation ∧ t.agent = s.agent ∧ t.flash = s.flash ∧ t.pending = s.pending :=
  by
  simp only [State.countField]; (repeat' split) <;> simp

/-- What `countDispatch` leaves. -/
@[simp] theorem State.countDispatch_frame (f : Bytes) (j : Judgement) :
    let t := s.countDispatch f j
    t.inReset = s.inReset ∧ t.straps = s.straps ∧ t.initialising = s.initialising ∧ t.fport = s.fport ∧
    t.dport.up = s.dport.up ∧ t.dport.reply = s.dport.reply ∧ t.dport.sending = s.dport.sending ∧
    t.dport.mark = s.dport.mark ∧ t.dport.sequence = s.dport.sequence ∧ t.dport.noticeNumber = s.dport.noticeNumber ∧
    t.link = s.link ∧ t.sources = s.sources ∧ t.tables = s.tables ∧ t.correlator = s.correlator ∧ t.board = s.board ∧
    t.sweep = s.sweep ∧ t.scan = s.scan ∧ t.notices = s.notices ∧ t.storm = s.storm ∧ t.escalation = s.escalation ∧
    t.agent = s.agent ∧ t.flash = s.flash ∧ t.pending = s.pending :=
  by
  simp only [State.countDispatch]; (repeat' split) <;> simp

/-- What `setHoldoff` leaves. -/
@[simp] theorem State.setHoldoff_frame (a : Nat) :
    let t := s.setHoldoff a
    t.inReset = s.inReset ∧ t.straps = s.straps ∧ t.initialising = s.initialising ∧ t.fport = s.fport ∧
    t.dport = s.dport ∧ t.link = s.link ∧ t.sources = s.sources ∧ t.tables = s.tables ∧
    t.correlator.state = s.correlator.state ∧ t.correlator.independentCount = s.correlator.independentCount ∧
    t.correlator.resumeTime = s.correlator.resumeTime ∧ t.board = s.board ∧ t.sweep = s.sweep ∧ t.scan = s.scan ∧
    t.notices = s.notices ∧ t.storm = s.storm ∧ t.escalation = s.escalation ∧ t.agent = s.agent ∧ t.flash = s.flash ∧
    t.pending = s.pending :=
  by
  simp only [State.setHoldoff]; (repeat' split) <;> simp

/-- What `detectTest` leaves. -/
@[simp] theorem State.detectTest_frame (f : Bytes) :
    let t := s.detectTest f
    t.inReset = s.inReset ∧ t.straps = s.straps ∧ t.initialising = s.initialising ∧ t.fport = s.fport ∧
    t.dport = s.dport ∧ t.link = s.link ∧ t.sources = s.sources ∧ t.tables = s.tables ∧
    t.correlator.state = s.correlator.state ∧ t.correlator.independentCount = s.correlator.independentCount ∧
    t.correlator.resumeTime = s.correlator.resumeTime ∧ t.board = s.board ∧ t.sweep = s.sweep ∧ t.scan = s.scan ∧
    t.notices = s.notices ∧ t.storm = s.storm ∧ t.escalation = s.escalation ∧ t.agent = s.agent ∧ t.flash = s.flash ∧
    t.pending = s.pending :=
  by
  simp only [State.detectTest]; (repeat' split) <;> simp

/-- What `endReplay` leaves. -/
@[simp] theorem State.endReplay_frame :
    let t := s.endReplay
    t.inReset = s.inReset ∧ t.straps = s.straps ∧ t.fport = s.fport ∧ t.dport = s.dport ∧ t.link = s.link ∧
    t.sources = s.sources ∧ t.tables = s.tables ∧ t.correlator = s.correlator ∧ t.board = s.board ∧
    t.sweep = s.sweep ∧ t.scan = s.scan ∧ t.notices = s.notices ∧ t.storm = s.storm ∧ t.escalation = s.escalation ∧
    t.agent.long = s.agent.long ∧ t.agent.time = s.agent.time ∧ t.agent.config = s.agent.config ∧
    t.agent.mode = s.agent.mode ∧ t.agent.bootFailed = s.agent.bootFailed ∧
    t.agent.bootOrdinal = s.agent.bootOrdinal ∧ t.agent.overruns = s.agent.overruns ∧ t.flash = s.flash ∧
    t.pending = s.pending :=
  by simp [State.endReplay]

/-- What `failReplay` leaves. -/
@[simp] theorem State.failReplay_frame (n : Nat) :
    let t := s.failReplay n
    t.inReset = s.inReset ∧ t.straps = s.straps ∧ t.fport = s.fport ∧ t.dport = s.dport ∧ t.link = s.link ∧
    t.sources = s.sources ∧ t.tables = s.tables ∧ t.correlator = s.correlator ∧ t.board = s.board ∧
    t.sweep = s.sweep ∧ t.scan = s.scan ∧ t.notices = s.notices ∧ t.storm = s.storm ∧ t.escalation = s.escalation ∧
    t.agent.long = s.agent.long ∧ t.agent.time = s.agent.time ∧ t.agent.config = s.agent.config ∧
    t.agent.mode = s.agent.mode ∧ t.agent.overruns = s.agent.overruns ∧ t.flash = s.flash ∧ t.pending = s.pending :=
  by simp [State.failReplay]

/-- What `finish` leaves. -/
@[simp] theorem State.finish_frame (v : ReplyStatus) (b : Bytes) :
    let t := s.finish v b
    t.inReset = s.inReset ∧ t.straps = s.straps ∧ t.fport = s.fport ∧ t.dport.receive = s.dport.receive ∧
    t.link = s.link ∧ t.sources = s.sources ∧ t.tables = s.tables ∧ t.correlator = s.correlator ∧ t.board = s.board ∧
    t.sweep = s.sweep ∧ t.scan = s.scan ∧ t.notices.evicted = s.notices.evicted ∧
    t.notices.dropped = s.notices.dropped ∧ t.storm = s.storm ∧ t.escalation = s.escalation ∧
    t.agent.long = s.agent.long ∧ t.agent.time = s.agent.time ∧ t.agent.config = s.agent.config ∧
    t.agent.mode = s.agent.mode ∧ t.agent.overruns = s.agent.overruns ∧ t.flash = s.flash ∧ t.pending = s.pending :=
  by
  simp only [State.finish]; (repeat' split) <;> simp

/-- What `followThreshold` leaves. -/
@[simp] theorem State.followThreshold_frame (n : Nat) :
    let t := s.followThreshold n
    t.inReset = s.inReset ∧ t.straps = s.straps ∧ t.initialising = s.initialising ∧ t.fport = s.fport ∧
    t.dport.receive = s.dport.receive ∧ t.link.lastGood = s.link.lastGood ∧ t.sources.due = s.sources.due ∧
    t.tables = s.tables ∧ t.correlator.state = s.correlator.state ∧ t.correlator.records = s.correlator.records ∧
    t.correlator.independentCount = s.correlator.independentCount ∧ t.board = s.board ∧ t.sweep = s.sweep ∧
    t.scan = s.scan ∧ t.storm = s.storm ∧ t.escalation = s.escalation ∧ t.agent.long = s.agent.long ∧
    t.agent.time = s.agent.time ∧ t.agent.config = s.agent.config ∧ t.agent.mode = s.agent.mode ∧
    t.agent.bootFailed = s.agent.bootFailed ∧ t.agent.bootOrdinal = s.agent.bootOrdinal ∧
    t.agent.overruns = s.agent.overruns ∧ t.flash = s.flash ∧ t.pending = s.pending :=
  by
  simp only [State.followThreshold]; (repeat' split) <;> simp

/-- What `configure` leaves. -/
@[simp] theorem State.configure_frame (c : ConfigSet) :
    let t := s.configure c
    t.inReset = s.inReset ∧ t.straps = s.straps ∧ t.initialising = s.initialising ∧ t.fport = s.fport ∧
    t.dport.receive = s.dport.receive ∧ t.link.lastGood = s.link.lastGood ∧ t.tables = s.tables ∧
    t.correlator.state = s.correlator.state ∧ t.correlator.records = s.correlator.records ∧
    t.correlator.independentCount = s.correlator.independentCount ∧ t.board = s.board ∧ t.sweep = s.sweep ∧
    t.scan = s.scan ∧ t.storm = s.storm ∧ t.escalation = s.escalation ∧ t.agent.long = s.agent.long ∧
    t.agent.time = s.agent.time ∧ t.agent.mode = s.agent.mode ∧ t.agent.bootFailed = s.agent.bootFailed ∧
    t.agent.bootOrdinal = s.agent.bootOrdinal ∧ t.agent.overruns = s.agent.overruns ∧ t.flash = s.flash ∧
    t.pending = s.pending :=
  by simp [State.configure]

/-- What `adjustRuns` leaves. -/
@[simp] theorem State.adjustRuns_frame (u : State) :
    let t := s.adjustRuns u
    t.inReset = s.inReset ∧ t.straps = s.straps ∧ t.initialising = s.initialising ∧ t.fport = s.fport ∧
    t.dport = s.dport ∧ t.link = s.link ∧ t.sources = s.sources ∧ t.tables = s.tables ∧
    t.correlator.state = s.correlator.state ∧ t.correlator.independentCount = s.correlator.independentCount ∧
    t.correlator.resumeTime = s.correlator.resumeTime ∧ t.board = s.board ∧ t.sweep = s.sweep ∧ t.scan = s.scan ∧
    t.notices = s.notices ∧ t.storm = s.storm ∧ t.escalation = s.escalation ∧ t.agent = s.agent ∧ t.flash = s.flash ∧
    t.pending = s.pending :=
  by
  simp only [State.adjustRuns]; (repeat' split) <;> simp

/-! ### The agent while it executes -/

/-- An agent that is not waiting on its reply is untouched by the choice of a reply. -/
theorem State.replyChosen_of_ne {s : State} (h : s.agent.state ≠ .replyWaiting) : s.replyChosen = s := by
  simp [State.replyChosen, h]

/-- The arbiter's choice leaves an agent that is not waiting on its reply. -/
theorem State.choose_agent {s : State} (h : s.agent.state ≠ .replyWaiting) : s.choose.agent = s.agent := by
  simp only [State.choose]
  split
  · rw [State.sendReply, State.replyChosen_of_ne] <;> simp [h]
  · simp

/-- An offer to the D-port transmitter leaves an agent that is not waiting on its reply. -/
theorem State.offerDispatch_agent {s : State} (h : s.agent.state ≠ .replyWaiting) : s.offerDispatch.agent = s.agent := by
  simp only [State.offerDispatch]
  split
  · exact State.choose_agent h
  · rfl

/-- An arriving notice leaves an agent that is not waiting on its reply. -/
theorem State.arrive_agent {s : State} (n : Notice) (h : s.agent.state ≠ .replyWaiting) :
    (s.arrive n).agent = s.agent := State.offerDispatch_agent (s := { s with notices := _ }) h

/-- A requested asset notice leaves an agent that is not waiting on its reply. -/
theorem State.requestAsset_agent {s : State} (k : NoticeKind) (a : Nat) (c : Condition) (v : Severity) (r : Option Nat)
    (n : Nat) (h : s.agent.state ≠ .replyWaiting) : (s.requestAsset k a c v r n).agent = s.agent := by
  simp only [State.requestAsset]
  split
  · exact State.arrive_agent _ h
  · rfl

/-- The end of an ADOPT job leaves an agent that is not waiting on its reply. -/
theorem State.endAdopt_agent {s : State} (a : Nat) (h : s.agent.state ≠ .replyWaiting) :
    (s.endAdopt a).agent = s.agent := by
  simp only [State.endAdopt]
  split
  · split
    · rw [State.requestFromRecord, State.requestAsset_agent] <;> simp [h]
    · simp
  · rfl

/-- A queued RELEASE leaves an agent that is not waiting on its reply. -/
theorem State.queueRelease_agent {s : State} (a : Nat) (h : s.agent.state ≠ .replyWaiting) :
    (s.queueRelease a).agent = s.agent := by
  simp only [State.queueRelease]
  split
  · simpa using State.endAdopt_agent a h
  · split <;> simp

/-- The raising of a HELD escalation leaves an agent that is not waiting on its reply. -/
theorem State.stormEnded_agent {s : State} (h : s.agent.state ≠ .replyWaiting) : s.stormEnded.agent = s.agent := by
  simp only [State.stormEnded, State.raise]
  split
  · exact State.arrive_agent _ h
  · rfl
  · rfl
  · rfl

/-! ### Running a row -/

/-- The row of a command that the agent is executing runs the command's body. -/
theorem State.runRow_executes {s : State} {p : Bytes} {row : CommandRow} (h : s.executes p) (hr : commandRow p = row)
    (body : Bytes → State → Ending) : s.runRow row body = (body p s).settle := by
  obtain ⟨h1, h2, h3⟩ := h
  simp [State.runRow, h1, h2, h3, hr]

/-- A row changes nothing, or the agent is executing a frame of that row and its body runs. -/
theorem State.runRow_cases (row : CommandRow) (body : Bytes → State → Ending) :
    s.runRow row body = s ∨
      ∃ p, s.executes p ∧ commandRow p = row ∧ s.runRow row body = (body p s).settle := by
  by_cases h : ∃ p, s.executes p ∧ commandRow p = row
  · obtain ⟨p, h, hr⟩ := h
    exact .inr ⟨p, h, hr, State.runRow_executes h hr body⟩
  · refine .inl ?_
    simp only [State.runRow]
    split
    · next p hp =>
      split
      · next hc => exact absurd ⟨p, ⟨by simpa using hc.1, hc.2.1, hp⟩, hc.2.2⟩ h
      · rfl
    all_goals rfl

/-- The reply of a command taken from the Command Queue is its answer. -/
theorem Ending.settle_reply {s : State} {p : Bytes} (h : s.agent.state = .executing p) (v : ReplyStatus) (r : Bytes) :
    (Ending.reply s v r).settle = s.answered p v r := by
  simp [Ending.settle, State.finish, h, State.answered]

/-- A refusal is answered with its status and no results. -/
theorem refuse_settle {s : State} {p : Bytes} (h : s.agent.state = .executing p) (v : ReplyStatus) :
    (refuse s v).settle = s.answered p v [] := Ending.settle_reply h v []

/-- A command done with no results is answered DONE. -/
theorem done_settle {s : State} {p : Bytes} (h : s.agent.state = .executing p) :
    (done s).settle = s.answered p .done [] := Ending.settle_reply h .done []

@[simp] theorem Ending.settle_goesOn : (Ending.goesOn s).settle = s := rfl

/-! ### What an operation does -/

/-- A busy D-port transmitter is offered nothing. -/
theorem State.offerDispatch_busy {s : State} (h : s.dport.sending ≠ none) : s.offerDispatch = s := by
  simp [State.offerDispatch, h]

/-- An IDLE D-port transmitter makes its choice. -/
theorem State.offerDispatch_idle {s : State} (h : s.dport.sending = none) : s.offerDispatch = s.choose := by
  simp [State.offerDispatch, h]

/-- A notice that arrives at a busy D-port changes the Notice Queue alone. -/
theorem State.arrive_busy {s : State} (n : Notice) (h : s.dport.sending ≠ none) :
    s.arrive n = { s with notices := arriveAt n s.notices } := State.offerDispatch_busy h

/-- A notice that passes no filter changes nothing; any other arrives. -/
theorem State.requestAsset_cases (k : NoticeKind) (a : Nat) (c : Condition) (v : Severity) (r : Option Nat) (n : Nat) :
    s.requestAsset k a c v r n = s ∨
      s.passesFilters k a = true ∧ s.requestAsset k a c v r n = s.arrive (s.assetNotice k a c v r n) := by
  by_cases h : s.passesFilters k a <;> simp [State.requestAsset, h]

/-- A record on the list stays where it is. -/
theorem State.join_listed {s : State} {a : Nat} (h : a ∈ s.board) : s.join a = s := by simp [State.join, h]

/-- A record off the list joins at the tail. -/
theorem State.join_board {s : State} {a : Nat} (h : a ∉ s.board) : (s.join a).board = s.board ++ [a] := by
  simp [State.join, h]

/-- A record that leaves is no longer on a list that holds each record once. -/
theorem State.not_mem_leave {s : State} (h : s.board.Nodup) (a : Nat) : a ∉ (s.leave a).board := by
  simp only [State.leave]
  split
  · exact h.not_mem_erase
  · assumption

/-- Who is on the list after one has left. -/
theorem State.mem_leave {s : State} (h : s.board.Nodup) (a b : Nat) : b ∈ (s.leave a).board ↔ b ≠ a ∧ b ∈ s.board := by
  simp only [State.leave]
  split
  · simpa using h.mem_erase_iff
  · next ha => exact ⟨fun hb => ⟨by rintro rfl; exact ha hb, hb⟩, And.right⟩

/-- The successor of an entry is on the list. -/
theorem successorIn_mem {l : List Nat} {a b : Nat} (h : successorIn l a = some b) : b ∈ l := by
  induction l with
  | nil => simp [successorIn] at h
  | cons x l ih =>
    simp only [successorIn] at h
    split at h
    · exact List.mem_cons_of_mem _ (List.mem_of_head? h)
    · exact List.mem_cons_of_mem _ (ih h)

/-- On a list that holds each entry once, no entry is its own successor. -/
theorem successorIn_ne {l : List Nat} (n : l.Nodup) {a b : Nat} (h : successorIn l a = some b) : b ≠ a := by
  induction l with
  | nil => simp [successorIn] at h
  | cons x l ih =>
    obtain ⟨n1, n2⟩ := List.nodup_cons.mp n
    simp only [successorIn] at h
    split at h
    · next hx => subst hx; rintro rfl; exact n1 (List.mem_of_head? h)
    · exact ih n2 h

/-- An asset or cause walk's answer is masking-faulted and is not the asset stepped over. -/
theorem ancestorWithin_sound {s : State} {x : Option Nat} {n a p : Nat} (h : ancestorWithin s x n a = some p) :
    s.maskingFaulted p = true ∧ x ≠ some p := by
  induction n generalizing a with
  | zero => simp [ancestorWithin] at h
  | succ n ih =>
    simp only [ancestorWithin] at h
    split at h
    · simp at h
    · split at h
      · simp_all
      · exact ih h

/-- A merged entry keeps the subject and family of its request. -/
theorem mergeNotice_family (e n : Notice) :
    (mergeNotice e n).subject = n.subject ∧ (mergeNotice e n).kind.family = n.kind.family := by
  refine ⟨rfl, ?_⟩
  simp only [mergeNotice, mergeKind]
  split <;> simp_all [NoticeKind.family]

/-- The head of the queue is one of its entries, and none has a higher priority. -/
theorem queueHead_sound {es : List Notice} {n : Notice} (h : queueHead es = some n) :
    n ∈ es ∧ ∀ x ∈ es, x.priority ≤ n.priority := by
  induction es generalizing n with
  | nil => simp [queueHead] at h
  | cons e es ih =>
    simp only [queueHead] at h
    split at h
    · next hn =>
      have : es = [] := by
        cases es with
        | nil => rfl
        | cons a l => simp only [queueHead] at hn; split at hn <;> (try split at hn) <;> simp at hn
      simp_all
    · next m hm =>
      obtain ⟨h1, h2⟩ := ih hm
      split at h <;> obtain rfl := Option.some.inj h
      · exact ⟨List.mem_cons_of_mem _ h1, by simpa using ⟨by omega, h2⟩⟩
      · refine ⟨List.mem_cons_self .., ?_⟩
        intro x hx
        rcases List.mem_cons.mp hx with rfl | hx
        · exact le_rfl
        · have := h2 x hx; omega

/-- A queue with an entry has a head. -/
theorem queueHead_isSome {es : List Notice} (h : es ≠ []) : (queueHead es).isSome := by
  cases es with
  | nil => exact absurd rfl h
  | cons e es => simp only [queueHead]; split <;> (try split) <;> rfl

/-- When a test holdoff runs (R8, R26). -/
theorem FaultRecord.holdoffRunning_iff (r : FaultRecord) (now : Nat) :
    r.holdoffRunning now = true ↔
      ∃ t, r.testUntil = some t ∧ now < t := by
  simp only [FaultRecord.holdoffRunning]
  cases r.testUntil <;> simp

end Sys2Proof.Machine
end

