-- ==== Sys2Proof/Tests/Slice0.lean ====
section
/-! SUPPORT. Tests: the refusals of WellFormed, the manual's worked figures, one step of some commands, and for every statement
with hypotheses a witness that meets them. -/

namespace Sys2Proof.Tests

open Sys2Proof Sys2Proof.Machine

/-! ### WellFormed and Decode -/

/-- Strap pins NODE are six and MODE two (00_scope.md, Pin summary). -/
theorem test_wellFormed_straps :
    (Instr.powerOnResetRelease 63 3 true).wellFormed = true ∧ (Instr.powerOnResetRelease 64 0 true).wellFormed = false ∧
      (Instr.powerOnResetRelease 0 4 true).wellFormed = false := by decide

/-- Sources are the node numbers 0..63 (R152). -/
theorem test_wellFormed_source :
    (Instr.sourceSilent 63).wellFormed = true ∧ (Instr.sourceSilent 64).wellFormed = false := by decide

/-- The table gives no row bits, so no word spells a command. -/
theorem test_decode_none : decodeTableWord 16 0x0105 = none := by decide

/-! ### Worked figures of the manual -/

/-- 2.7: the keepalive of concentrator 5, sequence 0x2A. -/
theorem test_checkWord_keepalive : checkWord [0x01, 0x05, 0x00, 0x2A, 0x00] = 0xFED0#16 := by decide

/-- 2.7: the keepalive with its check word is good, and damaged to sequence 0x2B it fails its check. -/
theorem test_judge_keepalive :
    judge [0x01, 0x05, 0x00, 0x2A, 0x00, 0xFE, 0xD0] = .good ∧
      judge [0x01, 0x05, 0x00, 0x2B, 0x00, 0xFE, 0xD0] = .checkFailure := by decide

/-- 2.7: the carry out of 16 bits is added at the bottom. -/
theorem test_endAroundSum : endAroundSum [0xFFFE#16, 0x0003#16, 0x8000#16, 0x8000#16] = 0x0003#16 := by decide

/-- 2.7 and R163: a frame of all zero bytes with check word 0xFFFF passes the check and fails the form. -/
theorem test_judge_zero_frame : judge [0, 0, 0, 0, 0, 0xFF, 0xFF] = .malformed := by decide

/-- 2.4: 40,000 at 1,000, now 1,959, H = 60: n = 15. -/
theorem test_flapDecay_fifteen : flapDecay 60 40000 1000 1959 = (1, 1900) := by decide

/-- 2.4: a stamp later than now is not decayed. -/
theorem test_flapDecay_time_set_back : flapDecay 60 8000 7000 2300 = (8000, 7000) := by decide

/-- 2.5: base 20, minor drop 8, boost 5; base 30, boost 7; base 5, minor drop 8, boost 3. -/
theorem test_assetPriority :
    (assetPriority { notLoadedClass with basePriority := 20, minorDrop := 8 } 5 .minor = 17 ∧
      assetPriority { notLoadedClass with basePriority := 20, minorDrop := 8 } 5 .major = 25) ∧
    assetPriority { notLoadedClass with basePriority := 30 } 7 .major = 31 ∧
    assetPriority { notLoadedClass with basePriority := 5, minorDrop := 8 } 3 .minor = 3 := by decide

/-! ### A part in service

Node 5, CORRELATE, READY, the link PASS, time 1,000. Asset 0 is the parent of 1, which is the parent of 2; all are of class 0,
which is masking. Source 7 sends the points 0..2 of channel 0 as assets 0..2. -/

/-- Class 0 of the tests. -/
def class0 : ClassEntry where
  qualifyCount := 2
  restoreCount := 2
  reportPeriod := 10
  silenceMultiple := 3
  basePriority := 20
  minorDrop := 8
  masking := true
  escalate := true
  riseMask := true
  fallMask := true
  changeMask := true
  flapMask := true
  adoptionWindow := 20
  flapWeight := 1000
  halfLife := 60
  flapOn := 3000
  flapOff := 1000
  testHoldoff := 60

/-- The tables of the tests. -/
def tables0 : LoadedTables where
  trunks := [(112, some ⟨0, 3⟩)]
  assets := [(0, ⟨0, none, 5#20, false, true⟩), (1, ⟨0, some 0, 6#20, false, true⟩), (2, ⟨0, some 1, 7#20, false, true⟩)]
  classes := [(0, some class0)]
  templates := []
  assetCount := 3

/-- The part in service, with nothing faulted. -/
def service : State :=
  { powerOnState 5 .correlate false true [] [] with
    initialising := false
    link := ⟨.pass, 0, some 990, some 900, false⟩
    sources.table := [(7, { unusedSource with state := .alive, lastFrameTime := some 990 })]
    tables := tables0
    correlator.state := .ready
    agent.state := .idle
    agent.time := 1000 }

/-- The part in service, executing the command with payload `p`. -/
def running (p : Bytes) : State := { service with agent.state := .executing p }

/-- The part loading, executing the command with payload `p`. -/
def loading (p : Bytes) : State := { running p with correlator.state := .loading }

/-- A faulted, independent record, HELD. -/
def standing : FaultRecord :=
  { clearRecord with
    condition := .fault, severity := .major, latch := .held, qualifiedAt := some 950, joinedAt := some 950 }

/-- Asset 0 faulted and independent, asset 1 suppressed under it. -/
def faulted : State :=
  { service with
    correlator.records := [(0, { standing with dependents := 1 }), (1, { standing with cause := some 0, latch := .clear })]
    correlator.independentCount := 1
    board := [0, 1] }

/-- `faulted` with one sweep job, running at `position`. -/
def sweeping (w : Walk) (position : Option Nat) : State := { faulted with sweep.jobs := [⟨w, .running, position, 0⟩] }

/-- A notice of a given asset and priority. -/
def noticeOf (a p : Nat) : Notice := ⟨.out, .asset a, .fault, .major, none, 0, 0, p, 1000, 0, none, 0#20⟩

/-- Eight sweep jobs for assets 10..17. -/
def fullSweep : List SweepJob := (List.range 8).map fun i => waitingJob (.release (10 + i))

/-- A good MGMT frame for a node. -/
def mgmtFrame (node : Nat) : Bytes := buildFrame 4 node 0 0 [1, 0]

/-- The answer that a command leaves in the D-port transmitter. -/
def sentBytes (o : Host.Outcome State Fault Refusal) : Option Bytes :=
  match o with
  | .next t => t.dport.sending
  | .fault _ | .refused _ => none

/-- The agent executes in `running`. -/
theorem running_executes (p : Bytes) : (running p).executes p := ⟨rfl, rfl, rfl⟩

/-- The agent executes in `loading`. -/
theorem loading_executes (p : Bytes) : (loading p).executes p := ⟨rfl, rfl, rfl⟩

/-! ### One step of some commands -/

/-- R184, R174: QUERY ASSET of asset 2 is answered from the idle transmitter as a REPLY frame of node 5. -/
theorem test_queryAsset_reply :
    (sentBytes (exec .queryAsset (running [16, 9, 0, 2, 0]))).map (fun f => (f.take 13).map BitVec.toNat) =
      some [5, 5, 0, 0, 52, 16, 9, 0, 0, 0, 1, 0, 0] := by decide

/-- R172: a fifth waiting frame is a management overrun. -/
theorem test_command_queue_overrun :
    (({ service with agent.state := .replyWaiting, agent.queue := List.replicate 4 (mgmtFrame 5) } : State).queueCommand
      (mgmtFrame 5)).agent.overruns = 1 := by decide

/-- R166: a seventeenth forward-up frame is discarded and counted. -/
theorem test_forward_up_overflow :
    (({ service with dport.up := List.replicate 16 [] } : State).forwardUp []).dport.counters.upOverflows = 1 := by decide

/-- R14: asset 2's nearest masking-faulted ancestor is asset 1, and asset 0 when 1 is stepped over. -/
theorem test_ancestor : faulted.ancestor 2 = some 1 ∧ faulted.ancestorExcluding 1 2 = some 0 := by decide

/-- R58, R59: ADOPT(0) adopts an independent asset 2 whose nearest faulted ancestor is 0. -/
theorem test_adopt_visit :
    let s := { sweeping (.adopt 0) (some 2) with correlator.records := [(0, standing), (2, standing)], board := [0, 2] }
    ((s.sweepOnce.record 2).cause, (s.sweepOnce.record 0).dependents, s.sweepOnce.sweep.jobs.map SweepJob.tally) =
      (some 0, 1, [1]) := by decide

/-- R65: RELEASE(0) with asset 0 out of the way unmasks asset 1. -/
theorem test_release_visit :
    let s := sweeping (.release 0) (some 1)
    ((s.sweepOnce.record 1).cause, (s.sweepOnce.record 1).latch, s.sweepOnce.correlator.independentCount) =
      (none, .held, 2) := by decide

/-! ### Witnesses

One theorem for each statement with hypotheses: a concrete state and operands that meet them, clause by clause, at the ends of
their ranges. -/

/-- A command in front of others, and an empty queue. -/
theorem witness_StepRunsFrontCommand :
    ({ service with pending := [.sweepStep, .timeBaseAdvance] } : State).pending = .sweepStep :: [.timeBaseAdvance] ∧
      service.pending = [] := by decide

/-- A part in service with nothing going on; one in reset, and a command that is none of the four; STATUS of an agent that executes
another row, and of an IDLE one. -/
theorem witness_StepsThatCannotOccur :
    (service.correlator.state ≠ .init ∧ service.agent.long = none ∧ service.fport.sending = none ∧
      service.dport.sending = none ∧ service.agent.state = .idle ∧ service.sweep.jobs = []) ∧
      ({ service with inReset := true } : State).inReset = true ∧ Instr.timeBaseAdvance ≠ .resetAssert ∧
      Instr.timeBaseAdvance ≠ .lineSignalLoss ∧ Instr.timeBaseAdvance ≠ .lineSignalReturn ∧
      commandRow [2, 0] ≠ .status := by decide

/-- A command other than the release, other than those that own a register, that answers a next state. -/
theorem witness_RegistersChangeOnlyByTheirCommands :
    (∀ node modePins boot, Instr.sweepStep ≠ .powerOnResetRelease node modePins boot) ∧ Instr.sweepStep ≠ .config ∧
      Instr.sweepStep ≠ .bootReplayFrame ∧ Instr.sweepStep ≠ .setMode ∧ Instr.sweepStep ≠ .timeSet ∧
      Instr.sweepStep ≠ .timeBaseAdvance ∧ Instr.sweepStep ≠ .flashEraseBlock ∧ Instr.sweepStep ≠ .flashWriteEnd ∧
      exec .sweepStep (sweeping (.adopt 0) (some 1)) = .next (sweeping (.adopt 0) (some 1)).sweepOnce :=
  ⟨fun _ _ _ => by simp, by decide, by decide, by decide, by decide, by decide, by decide, by decide, rfl⟩

/-- A reset that is asserted, and the straps at the ends of their ranges. -/
theorem witness_ResetHoldsAndReleaseSetsEveryBlock :
    (exec .resetAssert service =
      .next { service with inReset := true, fport.sending := none, dport.sending := none, agent.long := none }) ∧
      0 < 64 ∧ 63 < 64 ∧ 0 < 4 ∧ 3 < 4 := ⟨rfl, by decide⟩

/-- The end of INIT with boot choice 0 and 1. -/
theorem witness_InitEndEntersLoading :
    (powerOnState 5 .monitor false true [] []).inReset = false ∧
      (powerOnState 5 .monitor false true [] []).correlator.state = .init ∧
      (powerOnState 5 .monitor false true [] []).straps.boot = false ∧
      (powerOnState 5 .monitor true true [] []).straps.boot = true := by decide

/-- The last advance and the held time base, out of reset. -/
theorem witness_TimeBaseAdvancesByOne :
    service.inReset = false ∧ ({ service with agent.time := 4294967294 } : State).agent.time < 4294967295 ∧
      4294967295 ≤ ({ service with agent.time := 4294967295 } : State).agent.time := by decide

/-- A watchdog one second past its window of 20, and source 63 one second past its window of 30. -/
theorem witness_DeadlinesExpire :
    (let s : State := { service with link.watchdogDue := true, agent.time := 1011 };
      s.inReset = false ∧ s.link.watchdogDue = true ∧ s.link.state = .pass ∧ 0 < s.agent.config.passThreshold ∧
        2 * s.agent.config.keepalive < s.agent.time - max (s.link.lastGood.getD 0) (s.link.passedAt.getD 0)) ∧
    let s : State := { service with
      sources := ⟨[(63, { unusedSource with state := .waiting, lastFrameTime := some 969 })], [63]⟩ }
    63 < 64 ∧ s.inReset = false ∧ 63 ∈ s.sources.due ∧ s.correlator.state = .ready ∧ s.agent.mode ≠ .passThrough ∧
      s.link.state = .pass ∧ ((s.source 63).state = .waiting ∨ (s.source 63).state = .alive) ∧
      s.agent.config.keepalive * s.agent.config.sourceMultiple <
        s.agent.time - max ((s.source 63).lastFrameTime.getD 0) s.correlator.resumeTime := by decide

/-- A watchdog and a source's window of 30 s that have run to their last second and not past it; N = 0; an UNUSED source; the
same deadlines run out and not marked. -/
theorem witness_DeadlinesStand :
    (let s : State := { service with link.watchdogDue := true, agent.time := 1010 };
      s.agent.time - max (s.link.lastGood.getD 0) (s.link.passedAt.getD 0) ≤ 2 * s.agent.config.keepalive) ∧
      (let s : State := { service with
          sources := ⟨[(63, { unusedSource with state := .waiting, lastFrameTime := some 970 })], [63]⟩ };
        s.agent.time - max ((s.source 63).lastFrameTime.getD 0) s.correlator.resumeTime ≤
          s.agent.config.keepalive * s.agent.config.sourceMultiple) ∧
      ({ service with agent.config.passThreshold := 0 } : State).agent.config.passThreshold = 0 ∧
      ((service.source 62).state ≠ .waiting ∧ (service.source 62).state ≠ .alive) ∧
      (let s : State := { service with agent.time := 1021 };
        s.watchdogExpired = true ∧ s.link.watchdogDue = false ∧ s.sourceExpired 7 = true ∧ 7 ∉ s.sources.due) := by decide

/-- A link in each state, and a DOWN link at thresholds 1 and 0. -/
theorem witness_LineSignalMovesTheLink :
    service.inReset = false ∧ service.correlator.state ≠ .init ∧ service.link.state = .pass ∧
      ({ service with link.state := .qualifying } : State).link.state = .qualifying ∧
      ({ service with link.state := .down } : State).link.state = .down ∧
      0 < ({ service with link.state := .down, agent.config.passThreshold := 1 } : State).agent.config.passThreshold ∧
      ({ service with link.state := .down, agent.config.passThreshold := 0 } : State).agent.config.passThreshold = 0 := by
  decide

/-- A part in reset, one in INIT, and one whose link is PASS already. -/
theorem witness_LineSignalMovesTheIndicationAlone :
    ({ service with inReset := true } : State).inReset = true ∧ State.reset.correlator.state = .init ∧
      service.link.state ≠ .down := by decide

/-- An empty report and a longest reply, of the greatest node, channel and sequence. -/
theorem witness_BuiltFrameIsJudgedGood :
    (1 ≤ 1 ∧ 1 ≤ 5 ∧ ([] : Bytes).length ≤ 240 ∧ ([] : Bytes).length % 5 = 0) ∧
      (1 ≤ 5 ∧ 5 ≤ 5 ∧ 63 ≤ 63 ∧ 15 ≤ 15 ∧ 255 ≤ 255) ∧ (List.replicate 240 0#8).length ≤ 240 :=
  ⟨by decide, by decide, List.length_replicate.le⟩

/-- Frames of 6, 7, 247 and 248 bytes; a keepalive with a damaged byte; well-summed frames of kind 0 and of a REPORT of one
byte, and a good one. -/
theorem witness_EveryFrameIsJudged :
    (List.replicate 6 0#8).length < 7 ∧ 247 < (List.replicate 248 0#8).length ∧
      receivedSum [0x01, 0x05, 0x00, 0x2B, 0x00, 0xFE, 0xD0] ≠ 0xFFFF#16 ∧
      (let f : Bytes := [0, 0, 0, 0, 0, 0xFF, 0xFF]; f.length = 7 ∧ receivedSum f = 0xFFFF#16 ∧ ¬ 1 ≤ byteAt f 0) ∧
      (let f := buildFrame 1 5 0 0 [0]; receivedSum f = 0xFFFF#16 ∧ byteAt f 0 = 1 ∧ byteAt f 4 % 5 ≠ 0) ∧
      let f := buildFrame 5 63 15 255 (List.replicate 240 7#8)
      f.length = 247 ∧ receivedSum f = 0xFFFF#16 ∧ byteAt f 0 = 5 ∧ byteAt f 1 ≤ 63 ∧ byteAt f 2 ≤ 15 ∧ byteAt f 4 = 240 := by
  decide +kernel

/-- The keepalive of 2.7 with its last byte damaged. -/
theorem witness_SingleDamagedByteIsDetected :
    7 ≤ [0x01#8, 0x05#8, 0x00#8, 0x2A#8, 0x00#8, 0xFE#8, 0xD0#8].length ∧
      6 < [0x01#8, 0x05#8, 0x00#8, 0x2A#8, 0x00#8, 0xFE#8, 0xD0#8].length ∧
      [0x01#8, 0x05#8, 0x00#8, 0x2A#8, 0x00#8, 0xFE#8, 0xD0#8][6]? ≠ some 0xD1#8 ∧
      receivedSum [0x01#8, 0x05#8, 0x00#8, 0x2A#8, 0x00#8, 0xFE#8, 0xD0#8] = 0xFFFF#16 := by decide

/-- A part held in reset and one in INIT; a failed check and a malformed frame at a link in each state, and a good MGMT at runs
that do and do not reach N = 3. -/
theorem witness_FieldFrameIsJudgedForTheLink :
    ({ service with inReset := true } : State).inReset = true ∧
      ({ service with correlator.state := .init } : State).correlator.state = .init ∧ service.inReset = false ∧ service.correlator.state ≠ .init ∧
      judge [0x01, 0x05, 0x00, 0x2B, 0x00, 0xFE, 0xD0] = .checkFailure ∧ judge [] = .malformed ∧
      service.link.state = .pass ∧ service.agent.config.errorMode = .strict ∧
      ({ service with agent.config.errorMode := .lenient } : State).agent.config.errorMode = .lenient ∧
      ({ service with link.state := .down } : State).link.state = .down ∧
      judge (mgmtFrame 5) = .good ∧ frameKind (mgmtFrame 5) = 4 ∧
      judge (buildFrame 2 5 0 0 []) = .good ∧ frameKind (buildFrame 2 5 0 0 []) = 2 ∧
      (let s : State := { service with link.state := .qualifying, link.run := 1 };
        s.link.state = .qualifying ∧ s.link.run + 1 < s.agent.config.passThreshold) ∧
      let s : State := { service with link.state := .qualifying, link.run := 2 }
      s.link.state = .qualifying ∧ s.agent.config.passThreshold ≤ s.link.run + 1 := by decide

/-- A good NOTICE, and a good REPORT from source 7 not taken, repeated and new, at a link PASS and at one QUALIFYING one frame
short of N = 3. -/
theorem witness_GoodFieldFrameIsHandedOn :
    (let s : State := { service with link.state := .qualifying, link.run := 2 };
      s.link.state = .qualifying ∧ s.agent.config.passThreshold ≤ s.link.run + 1) ∧
      service.inReset = false ∧ service.correlator.state ≠ .init ∧ service.link.state ≠ .qualifying ∧
      judge (buildFrame 3 7 0 0 []) = .good ∧ frameKind (buildFrame 3 7 0 0 []) = 3 ∧
      judge (buildFrame 1 7 0 9 []) = .good ∧ frameKind (buildFrame 1 7 0 9 []) = 1 ∧
      frameNode (buildFrame 1 7 0 9 []) = 7 ∧ frameSequence (buildFrame 1 7 0 9 []) = 9 ∧
      ({ service with agent.mode := .passThrough } : State).agent.mode = .passThrough ∧
      (service.correlator.state = .ready ∧ service.agent.mode ≠ .passThrough ∧ service.link.state = .pass ∧
        (service.source 7).state ≠ .unused) ∧
      (service.source 7).lastAccepted ≠ some 9 ∧
      (({ service with sources.table := [(7, { unusedSource with state := .alive, lastAccepted := some 9 })] } : State).source
        7).lastAccepted = some 9 := by decide

/-- An accepted report of sequence 255 from an ALIVE source, and of a SILENT source that expected 255; a malformed item, the
last point of source 7 and the one past it, and a point that maps to the asset count; a payload short of an item, and first
words of each status, without and with a value. -/
theorem witness_AcceptedReportUpdatesItsSource :
    255 < 256 ∧ (∀ x ∈ (service.source 7).expected, x < 256) ∧ (service.source 7).state ≠ .silent ∧
      let s : State := { service with sources.table := [(7, { unusedSource with state := .silent, expected := some 255 })] }
      (∀ x ∈ (s.source 7).expected, x < 256) ∧ (s.source 7).state = .silent ∧
      (itemOf 0x0C 0x02 0 0 0).status = none ∧ (itemOf 0x04 0x02 0 0 0).status = some .degraded ∧
      mapPoint service.tables 7 0 (itemOf 0x04 0x02 0 0 0).point = some 2 ∧
      mapPoint service.tables 7 0 (itemOf 0x04 0x03 0 0 0).point = none ∧
      mapPoint { tables0 with assetCount := 2 } 7 0 2 = none ∧
      [0#8, 0#8, 0#8, 0#8].length < 5 ∧ 0x7000 / 1024 % 4 = 0 ∧ 0x7000 < 32768 ∧ 0x8400 / 1024 % 4 = 1 ∧
      0x0800 / 1024 % 4 = 2 ∧ 0x0FFF / 1024 % 4 = 3 := by decide

/-- Frames of each kind on the D-port; a Command Queue of 3 and of 4; a TEST that maps, and one that does not; an IDLE agent with
and without a frame waiting, and an executing one. -/
theorem witness_DispatchFrameIsHandedOnByKind :
    (service.inReset = false ∧ service.correlator.state ≠ .init ∧
      judge [0x01, 0x05, 0x00, 0x2B, 0x00, 0xFE, 0xD0] = .checkFailure ∧ judge [] = .malformed ∧
      judge (buildFrame 5 7 0 0 []) = .good ∧ frameKind (buildFrame 5 7 0 0 []) = 5 ∧
      judge (mgmtFrame 6) = .good ∧ frameKind (mgmtFrame 6) = 4 ∧ frameNode (mgmtFrame 6) ≠ service.straps.node ∧
      judge (mgmtFrame 5) = .good ∧ frameNode (mgmtFrame 5) = service.straps.node ∧
      ({ service with agent.queue := List.replicate 3 [] } : State).agent.queue.length < 4 ∧
      4 ≤ ({ service with agent.queue := List.replicate 4 [] } : State).agent.queue.length) ∧
    let f := buildFrame 2 7 0 0 [0x54, 0, 2]
    judge f = .good ∧ frameKind f = 2 ∧ service.fport.down.length < 16 ∧ 3 ≤ (framePayload f).length ∧
      byteAt (framePayload f) 0 = 0x54 ∧ tableGet none service.tables.trunks (frameNode f * 16 + frameChannel f) = some ⟨0, 3⟩ ∧
      (byteAt (framePayload f) 1 * 256 + byteAt (framePayload f) 2) % 1024 = 2 ∧ 2 < 3 ∧ 2 < service.tables.assetCount ∧
      0 < (service.classOf 2).testHoldoff ∧ judge (buildFrame 2 7 0 0 [0x54, 0, 3]) = .good ∧ ¬ 3 < 3 ∧
      service.agent.state = .idle ∧ service.agent.queue = [] ∧ (running [1, 0]).agent.state ≠ .idle ∧
      ({ service with agent.queue := [mgmtFrame 5] } : State).agent.queue = mgmtFrame 5 :: [] := by decide

/-- A FIFO of 16 and of 15 frames, an IDLE and a SENDING transmitter. -/
theorem witness_ForwardFifosAndTheFieldTransmitter :
    16 ≤ ({ service with fport.down := List.replicate 16 [] } : State).fport.down.length ∧
      ({ service with fport.down := List.replicate 15 [], fport.sending := some [] } : State).fport.down.length < 16 ∧
      ({ service with fport.down := [[]], fport.sending := some [] } : State).fport.sending ≠ none ∧
      service.fport.down = [] ∧ service.fport.sending = none ∧
      16 ≤ ({ service with dport.up := List.replicate 16 [] } : State).dport.up.length ∧
      ({ service with dport.up := List.replicate 15 [] } : State).dport.up.length < 16 ∧
      service.dport.sending = none ∧ ({ service with dport.sending := some [] } : State).dport.sending ≠ none ∧
      service.inReset = false ∧ ({ service with fport.down := [[1], [2]] } : State).fport.down = [1] :: [[2]] := by decide

/-- A SENDING D-port transmitter with each of the things the arbiter may find. -/
theorem witness_ArbiterServesInOrder :
    let s : State := { service with dport.sending := some [] }
    s.inReset = false ∧ s.dport.sending ≠ none ∧ ({ s with dport.reply := some [1] } : State).dport.reply = some [1] ∧
      s.dport.reply = none ∧
      ({ s with notices.entries := [noticeOf 1 24] } : State).presented = some (noticeOf 1 24) ∧ 24 ≤ (noticeOf 1 24).priority ∧
      (let u : State := { s with notices.entries := [noticeOf 1 23], dport.up := [[1]] };
        u.presented = some (noticeOf 1 23) ∧ (noticeOf 1 23).priority < 24 ∧ u.dport.up = [1] :: [] ∧
          u.dport.mark = .notice) ∧
      (let u : State := { s with dport.up := [[1]] };
        u.presented = none ∧ u.dport.up = [1] :: []) ∧
      s.presented = none ∧ s.dport.up = [] := by decide

/-- An agent in REPLY WAITING with no frame and with a frame waiting, and one that is not. -/
theorem witness_RepliesNoticesAndForwardsAreSent :
    service.agent.state ≠ .replyWaiting ∧
      (let s : State := { service with agent.state := .replyWaiting };
        s.agent.state = .replyWaiting ∧ s.agent.queue = []) ∧
      (let s : State := { service with agent.state := .replyWaiting, agent.queue := [mgmtFrame 5] };
        s.agent.state = .replyWaiting ∧ s.agent.queue = mgmtFrame 5 :: []) ∧
      service.dport.sending = none ∧ ({ service with dport.sending := some [] } : State).dport.sending ≠ none := by decide

/-- `service` with one record, at the scan position 0, at a time of its own. -/
def scanning (r : FaultRecord) (time : Nat) : State := { service with correlator.records := [(0, r)], agent.time := time }

/-- A part in PASS-THROUGH, one whose link is DOWN, one that is LOADING, and one without assets. -/
theorem witness_ScannerVisitNeedsAllThree :
    ({ service with agent.mode := .passThrough } : State).agent.mode = .passThrough ∧
      ({ service with link.state := .down } : State).link.state ≠ .pass ∧ (loading []).correlator.state ≠ .ready ∧
      ({ service with tables := { tables0 with assetCount := 0 } } : State).tables.assetCount = 0 := by decide

/-- The scanner at a record heard 30 s ago, which is not silent, and 31 s ago, which is: fresh, suppressed, independent. -/
theorem witness_ScannerVisitFindsSilence :
    service.inReset = false ∧ service.correlator.state = .ready ∧ service.agent.mode ≠ .passThrough ∧
      service.link.state = .pass ∧ 0 < service.tables.assetCount ∧ service.scan = 0 ∧
      (scanning { clearRecord with condition := .normal, lastHeard := some 970, lastSource := some 7 } 1000).silentNow 0 =
        false ∧
      (scanning { clearRecord with condition := .normal, lastHeard := some 970, lastSource := some 7 } 1001).silentNow 0 =
        true ∧
      (scanning { standing with cause := some 2, lastHeard := some 970 } 1001).silentNow 0 = true ∧
      (scanning { standing with lastHeard := some 970 } 1001).silentNow 0 = true ∧
      ({ standing with cause := some 2 } : FaultRecord).cause ≠ none ∧ standing.cause = none := by decide

/-- A job of each walk at the end of the list, at an entry that passes its test and at one that does not. -/
theorem witness_SweepStepTakesTheFirstThatApplies :
    (sweeping (.adopt 0) none).inReset = false ∧
      (sweeping (.adopt 0) none).sweep.jobs = ⟨.adopt 0, .running, none, 0⟩ :: [] ∧
      ((sweeping (.release 2) (some 1)).record 2).dependents = 0 ∧
      (sweeping (.ack none) (some 0)).sweep.jobs = ⟨.ack none, .running, some 0, 0⟩ :: [] ∧
      (sweeping (.adopt 0) (some 1)).adoptable 0 1 = false ∧
      (let s := { sweeping (.adopt 0) (some 2) with correlator.records := [(0, standing), (2, standing)], board := [0, 2] };
        s.adoptable 0 2 = true) ∧
      (let s := sweeping (.release 0) (some 1);
        (s.record 0).dependents ≠ 0 ∧ (s.record 1).cause = some 0 ∧ s.ancestorExcluding 0 1 = none ∧
          (s.record 2).cause ≠ some 0) ∧
      (let s := { sweeping (.release 1) (some 2) with
          correlator.records := [(0, standing), (1, { clearRecord with dependents := 1 }), (2, { standing with cause := some 1 })] };
        (s.record 1).dependents ≠ 0 ∧ (s.record 2).cause = some 1 ∧ s.ancestorExcluding 1 2 = some 0) ∧
      let s := { sweeping (.ack none) (some 2) with correlator.records := [(2, { clearRecord with latch := .held })] }
      (s.record 2).faulted = false ∧ (s.record 2).latch = .held ∧ (s.record 0).latch = .clear := by decide

/-- A replay at the last frame start with room and past it, at an end marker, at a bad frame and at a stored STATUS. -/
theorem witness_BootReplayRunsStoredFrames :
    let s : State := { service with agent.state := .replaying 0 0 none }
    let stored : Memory := [(0, 4), (1, 5), (2, 0), (3, 0), (4, 2), (5, 1), (6, 0), (7, 0xF7), (8, 0xFC)]
    s.inReset = false ∧ s.agent.state = .replaying 0 0 none ∧
      ¬ 1048569 + 7 + (tableGet 0xFF#8 s.flash (1048569 + 4)).toNat ≤ 1048576 ∧
      0 + 7 + (tableGet 0xFF#8 s.flash (0 + 4)).toNat ≤ 1048576 ∧ (tableGet 0xFF#8 s.flash 0).toNat = 255 ∧
      s.correlator.state = .ready ∧
      (let u : State := { s with flash := stored };
        (tableGet 0xFF#8 u.flash 0).toNat = 4 ∧ (tableGet 0xFF#8 u.flash (0 + 4)).toNat ≤ 240 ∧
          receivedSum (u.flashRun 0 (7 + 2)) ≠ 0xFFFF#16) ∧
      (let u : State := { s with flash := tableSetAll 0xFF#8 [] 0 (buildFrame 4 5 0 0 [1, 0]) };
        (tableGet 0xFF#8 u.flash 0).toNat = 4 ∧ (tableGet 0xFF#8 u.flash (0 + 4)).toNat ≤ 240 ∧
          receivedSum (u.flashRun 0 (7 + 2)) = 0xFFFF#16) ∧
      ({ service with agent.state := .replaying 9 0 (some [1, 0]) } : State).agent.state = .replaying 9 0 (some [1, 0]) := by
  decide

/-- A stored FLASH ERASE, whole and good, and the payload of a stored FLASH WRITE. -/
theorem witness_BootReplayRefusesFlashCommands :
    (let u : State := { service with
        agent.state := .replaying 0 0 none, flash := tableSetAll 0xFF#8 [] 0 (buildFrame 4 5 0 0 [30, 0]) };
      (tableGet 0xFF#8 u.flash 0).toNat = 4 ∧ (tableGet 0xFF#8 u.flash (0 + 4)).toNat ≤ 240 ∧
        receivedSum (u.flashRun 0 (7 + 2)) = 0xFFFF#16 ∧ framePayload (u.flashRun 0 (7 + 2)) = [30, 0]) ∧
      [30#8, 0#8].length = 2 ∧ byteAt [30, 0] 0 = 30 ∧ (31#8 :: List.replicate 133 0#8).length = 134 ∧
      byteAt (31#8 :: List.replicate 133 0#8) 0 = 31 := by decide +kernel

/-- A live STATUS, and a live FLASH ERASE, each on a payload of its row. -/
theorem witness_BootReplayRunsTheBodyOfTheRow :
    ((running [1, 0]).executes [1, 0] ∧ commandRow [1, 0] = .status) ∧
      (running [30, 0]).executes [30, 0] ∧ commandRow [30, 0] = .flashErase :=
  ⟨⟨running_executes _, by decide⟩, running_executes _, by decide⟩

/-- Payloads of a vector of one row and of two, with the byte that chooses 1, 0 and missing. -/
theorem witness_PayloadsHaveTheirRows :
    2 ≤ [1#8, 0#8].length ∧ byteAt [1, 0] 0 = 1 ∧ (byteAt [5, 0, 1] 0 = 5 ∧ byteAt [5, 0, 1] 2 = 1) ∧
      byteAt [20, 0, 0, 0, 0] 4 ≠ 1 ∧ byteAt [24, 0] 2 ≠ 1 := by decide

/-- A payload of one byte, of vector 32, of STATUS with an argument, and of ACK FAULT while LOADING; a TEMPLATE WRITE of 9
bytes, of 16 entries, and of 17; a TRUNK WRITE of no entry. -/
theorem witness_MalformedCommandsAreRefused :
    ((running [1]).executes [1] ∧ (loading [18, 0, 0, 0]).executes [18, 0, 0, 0]) ∧
      [1#8].length < 2 ∧ 2 ≤ [32#8, 0#8].length ∧
      byteAt [32, 0] 0 ∉ [1, 2, 3, 4, 5, 6, 8, 9, 10, 11, 12, 13, 16, 17, 18, 19, 20, 24, 25, 26, 30, 31] ∧
      commandRow [1, 0, 0] = .status ∧ [1#8, 0#8, 0#8].length - 2 ≠ 0 ∧ commandRow [18, 0, 0, 0] = .ackFault ∧
      [18#8, 0#8, 0#8, 0#8].length - 2 = 2 ∧ (loading [18, 0, 0, 0]).correlator.state ≠ .ready ∧
      commandRow (11 :: 0 :: List.replicate 9 0) = .templateWrite ∧ (11#8 :: 0#8 :: List.replicate 9 0#8).length - 2 = 9 ∧
      ¬ (∃ n ≤ 16, 9 = n * 10) ∧ 160 = 16 * 10 ∧ ¬ (∃ n ≤ 16, 170 = n * 10) ∧ commandRow [13, 0] = .trunkWrite ∧
      [13#8, 0#8].length - 2 = 0 ∧
      (let s : State := { running [13, 0] with correlator.state := .clearing };
        s.correlator.state ≠ .loading ∧ s.correlator.state ≠ .ready) :=
  ⟨⟨running_executes _, loading_executes _⟩, by decide⟩

/-- STATUS executing with and without arguments. -/
theorem witness_StatusRepliesWithTheState :
    (running [1, 9]).executes (1#8 :: 9#8 :: []) ∧ (running [1, 9, 0]).executes (1#8 :: 9#8 :: [0#8]) :=
  ⟨running_executes _, running_executes _⟩

/-- CONFIG at the ends of its ranges, one beyond, with a QUALIFYING link below and at the new N, and with N as it is; the
selects at the ends of their range, out of reset. -/
theorem witness_ConfigWritesTheSet :
    (running [2, 9, 15, 1, 60, 15, 31, 15, 255, 31, 7, 7]).executes [2, 9, 15, 1, 60, 15, 31, 15, 255, 31, 7, 7] ∧
      configInRange [15, 1, 60, 15, 31, 15, 255, 31, 7, 7] = true ∧ configInRange [0, 0, 1, 2, 0, 0, 0, 0, 0, 0] = true ∧
      configInRange [16, 1, 60, 15, 31, 15, 255, 31, 7, 7] = false ∧
      (let s : State := { running [2, 9, 2, 0, 10, 3, 24, 0, 0, 16, 0, 2] with link.state := .qualifying, link.run := 1 };
        s.link.state = .qualifying ∧ s.link.run < 2) ∧
      (let s : State := { running [2, 9, 2, 0, 10, 3, 24, 0, 0, 16, 0, 2] with link.state := .qualifying, link.run := 2 };
        2 ≠ s.agent.config.passThreshold ∧ s.link.state = .qualifying ∧ 2 ≤ s.link.run) ∧
      (let s : State := { running [2, 9, 0, 0, 10, 3, 24, 0, 0, 16, 0, 2] with
          link.state := .qualifying, agent.config.passThreshold := 0 };
        0 = s.agent.config.passThreshold ∧ s.link.state = .qualifying ∧ 0 ≤ s.link.run) ∧
      (service.inReset = false ∧ service.agent.config.stat0 = 0 ∧
        ({ service with agent.config.stat0 := 7 } : State).agent.config.stat0 = 7) := ⟨running_executes _, by decide⟩

/-- TIME SET to the end of the time base. -/
theorem witness_TimeSetReplacesTheTimeBase :
    (running [3, 9, 255, 255, 255, 255]).executes (3#8 :: 9#8 :: [255#8, 255#8, 255#8, 255#8]) ∧
      255 * 16777216 + 255 * 65536 + 255 * 256 + 255 = 4294967295 := ⟨running_executes _, by decide⟩

/-- SET MODE out of PASS-THROUGH, within the correlating modes, and to a mode above 2. -/
theorem witness_SetModeReplacesTheMode :
    ((running [4, 9, 2]).executes (4#8 :: 9#8 :: [2#8]) ∧ (running [4, 9, 3]).executes (4#8 :: 9#8 :: [3#8])) ∧
      ({ running [4, 9, 2] with agent.mode := .passThrough } : State).agent.mode = .passThrough ∧
      (running [4, 9, 2]).agent.mode ≠ .passThrough ∧ 2 < (3#8).toNat ∧ (2#8).toNat ≤ 2 :=
  ⟨⟨running_executes _, running_executes _⟩, by decide⟩

/-- READ COUNTERS of group PORT, of source 63, and of source 64. -/
theorem witness_ReadCountersSnapshotsAndClears :
    (running [6, 9, 0, 0, 1]).executes [6#8, 9#8, 0#8, 0#8, 1#8] ∧
      (running [6, 9, 1, 63, 1]).executes [6#8, 9#8, 1#8, 63#8, 1#8] ∧
      (running [6, 9, 1, 64, 0]).executes [6#8, 9#8, 1#8, 64#8, 0#8] ∧ (63#8).toNat ≤ 63 ∧ 63 < (64#8).toNat :=
  ⟨running_executes _, running_executes _, running_executes _, by decide, by decide⟩

/-- RESTART CLEAR in READY and in LOADING, RESTART FULL, LOAD BEGIN, and a CLEARING in progress, live and in the replay. -/
theorem witness_RestartsClearAndEnd :
    ((running [5, 9, 0]).executes [5#8, 9#8, 0#8] ∧ (loading [5, 9, 0]).executes [5#8, 9#8, 0#8] ∧
      (running [5, 9, 1]).executes [5#8, 9#8, 1#8] ∧ (running [8, 9]).executes [8#8, 9#8] ∧
      (running [5, 9, 2]).executes [5#8, 9#8, 2#8]) ∧ 1 < (2#8).toNat ∧
      (running [5, 9, 0]).correlator.state = .ready ∧ (loading [5, 9, 0]).correlator.state ≠ .ready ∧
      (let s : State := { running [5, 9, 0] with agent.long := some (.clearing true) };
        s.inReset = false ∧ s.agent.long = some (.clearing true) ∧ s.agent.state = .executing [5, 9, 0]) ∧
      let s : State := { service with agent.state := .replaying 9 0 (some [8, 0]), agent.long := some (.clearing false) }
      s.inReset = false ∧ s.agent.long = some (.clearing false) ∧ s.agent.state = .replaying 9 0 (some [8, 0]) :=
  ⟨⟨running_executes _, loading_executes _, running_executes _, running_executes _, running_executes _⟩, by decide⟩

/-- LOAD END while LOADING and while READY, and a validation that passes and one that fails check 2, live and in the replay. -/
theorem witness_LoadEndValidates :
    ((loading [9, 9, 0, 3]).executes (9#8 :: 9#8 :: [0#8, 3#8]) ∧
      (running [9, 9, 0, 3]).executes (9#8 :: 9#8 :: [0#8, 3#8])) ∧
      (validate tables0 3 = none ∧ validate tables0 4 = some (2, 3)) ∧
      (loading [9, 9, 0, 3]).correlator.state = .loading ∧ (running [9, 9, 0, 3]).correlator.state ≠ .loading ∧
      (let s : State := { loading [9, 9, 0, 3] with correlator.state := .validating, agent.long := some (.validating 3) };
        s.inReset = false ∧ s.agent.long = some (.validating 3) ∧ s.agent.state = .executing [9, 9, 0, 3]) ∧
      (let s : State := { loading [] with
          correlator.state := .validating, agent.long := some (.validating 3), agent.state := .replaying 11 4 (some [9, 0, 0, 3]) };
        s.inReset = false ∧ s.agent.long = some (.validating 3) ∧ s.agent.state = .replaying 11 4 (some [9, 0, 0, 3])) :=
  ⟨⟨loading_executes _, running_executes _⟩, by decide +kernel, by decide⟩

/-- Tables that fail each of the five checks at the lowest index that can. -/
theorem witness_ValidationMakesFiveChecks :
    (¬ 32769 ≤ 32768) ∧
      (0 < 1 ∧ ¬ (tableGet unwrittenAsset emptyTables.assets 0).written = true) ∧
      (3 < 4 ∧ ¬ (tableGet unwrittenAsset tables0.assets 3).written = true ∧
        ∀ k < 3, (tableGet unwrittenAsset tables0.assets k).written = true) ∧
      (let t := { tables0 with classes := [] };
        (∀ i < 3, (tableGet unwrittenAsset t.assets i).written = true) ∧ tableGet none t.classes 0 = none) ∧
      (let t := { tables0 with assets := [(0, ⟨0, some 0, 5#20, false, true⟩)] };
        (tableGet unwrittenAsset t.assets 0).written = true ∧ (tableGet none t.classes 0).isSome = true ∧
          (tableGet unwrittenAsset t.assets 0).parent = some 0) ∧
      (let t := { tables0 with trunks := [(0, some ⟨3, 1⟩)] };
        tableGet none t.trunks 0 = some ⟨3, 1⟩ ∧ ¬ 3 + 1 ≤ 3) := by decide

/-- A CLASS WRITE of class 0 as it is, one that moves its masking, and one with Q = 0. -/
def classBytes (q marks : Byte) : Bytes :=
  [0, q, 2, 0, 10, 3, 20, 8, marks, 0, 20, 3, 232, 0, 60, 11, 184, 3, 232, 0, 60]

/-- CLASS WRITE in LOADING, in READY and in CLEARING, in range and out. -/
theorem witness_ClassWriteWritesOneClass :
    ((running (10 :: 9 :: classBytes 2 63)).executes (10#8 :: 9#8 :: classBytes 2 63) ∧
      (loading (10 :: 9 :: classBytes 2 63)).executes (10#8 :: 9#8 :: classBytes 2 63)) ∧
      (classBytes 2 63).length = 21 ∧ classInRange (classBytes 1 63) = true ∧ classInRange (classBytes 0 63) = false ∧
      (classEntryOf (classBytes 2 63) = class0 ∧ class0.masking = (classEntryOf (classBytes 2 63)).masking) ∧
      (service.loadedClass (classIndex (classBytes 2 62)) = some class0 ∧
        class0.masking ≠ (classEntryOf (classBytes 2 62)).masking) ∧
      ({ running [] with correlator.state := .clearing } : State).correlator.state ≠ .loading :=
  ⟨⟨running_executes _, loading_executes _⟩, by decide⟩

/-- `service` with one record, of asset 0, and Q and P of its class. -/
def graded (r : FaultRecord) (q p : Nat) : State :=
  { service with
    correlator.records := [(0, r)]
    tables.classes := [(0, some { class0 with qualifyCount := q, restoreCount := p })] }

/-- A SUSPECT record at run 2 under Q lowered to 2, and a RECOVERING one at run 3 under P lowered to 3. -/
theorem witness_ClassWriteAdjustsRuns :
    (graded { clearRecord with condition := .suspect, run := 2 } 2 2).Canonical ∧
      (let s := graded { clearRecord with condition := .suspect, run := 2 } 2 2;
        s.correlator.state = .ready ∧ (s.record 0).condition = .suspect ∧ (s.classOf 0).qualifyCount ≤ (s.record 0).run ∧
          (s.classOf 0).qualifyCount ≠ ((graded clearRecord 3 2).classOf 0).qualifyCount) ∧
      let s := graded { standing with condition := .recovering, run := 3 } 2 3
      (s.record 0).condition = .recovering ∧ (s.classOf 0).restoreCount ≤ (s.record 0).run ∧
        (s.classOf 0).restoreCount ≠ ((graded clearRecord 2 4).classOf 0).restoreCount :=
  ⟨⟨by decide, by decide, by decide, by decide, by decide, by decide, by decide, by decide⟩, by decide⟩

/-- Two trunk entries of 7 bytes and a byte over: the second begins at byte 7. -/
theorem witness_EntriesAreConsecutive :
    let args : Bytes := [0, 0, 1, 0, 0, 0, 1, 63, 15, 1, 0, 2, 0, 1, 9]
    0 < 7 ∧ args.length / 7 = 2 ∧ entriesOf 7 args = [[0, 0, 1, 0, 0, 0, 1], [63, 15, 1, 0, 2, 0, 1]] := by decide

/-- Two trunk entries, good, and the second refused. -/
theorem witness_TwoEntriesAreWritten :
    (running (13 :: 9 :: [0, 0, 1, 0, 0, 0, 1, 63, 15, 1, 0, 2, 0, 1])).executes
        (13#8 :: 9#8 :: [0, 0, 1, 0, 0, 0, 1, 63, 15, 1, 0, 2, 0, 1]) ∧
      service.trunkTest [0, 0, 1, 0, 0, 0, 1] = none ∧ service.trunkTest [63, 15, 1, 0, 2, 0, 1] = none ∧
      entriesOf 7 [0, 0, 1, 0, 0, 0, 1, 63, 15, 1, 0, 2, 0, 2] = [[0, 0, 1, 0, 0, 0, 1], [63, 15, 1, 0, 2, 0, 2]] ∧
      service.trunkTest [63, 15, 1, 0, 2, 0, 2] = some .range := ⟨running_executes _, by decide⟩

/-- Asset 2 of the tests is of class 0, which is loaded. -/
theorem witness_AssetHasItsClass :
    tableGet none service.tables.classes (tableGet unwrittenAsset service.tables.assets 2).cls = some class0 := by decide

/-- One entry that passes and one that fails, of each table write, in READY. -/
theorem witness_TableWritesAreAllOrNothing :
    ((running (11 :: 9 :: [15, 1, 0, 0, 0, 0, 0, 0, 15, 7])).executes (11#8 :: 9#8 :: [15, 1, 0, 0, 0, 0, 0, 0, 15, 7]) ∧
      (running (12 :: 9 :: [0, 2, 0, 0, 1, 0, 0, 9])).executes (12#8 :: 9#8 :: [0, 2, 0, 0, 1, 0, 0, 9]) ∧
      (running (13 :: 9 :: [63, 15, 1, 0, 2, 0, 1])).executes (13#8 :: 9#8 :: [63, 15, 1, 0, 2, 0, 1])) ∧
      entriesOf 10 [15, 1, 0, 0, 0, 0, 0, 0, 15, 7] = [[15, 1, 0, 0, 0, 0, 0, 0, 15, 7]] ∧
      templateTest [15, 1, 0, 0, 0, 0, 0, 0, 15, 7] = none ∧ templateTest [16, 1, 0, 0, 0, 0, 0, 0, 15, 7] = some .range ∧
      entriesOf 8 [0, 2, 0, 0, 1, 0, 0, 9] = [[0, 2, 0, 0, 1, 0, 0, 9]] ∧
      service.assetTest [0, 2, 0, 0, 1, 0, 0, 9] = none ∧ service.assetTest [0, 3, 0, 0, 1, 0, 0, 9] = some .range ∧
      entriesOf 7 [63, 15, 1, 0, 2, 0, 1] = [[63, 15, 1, 0, 2, 0, 1]] ∧
      service.trunkTest [63, 15, 1, 0, 2, 0, 1] = none ∧ service.trunkTest [63, 15, 1, 0, 2, 0, 2] = some .range ∧
      service.correlator.state = .ready :=
  ⟨⟨running_executes _, running_executes _, running_executes _⟩, by decide⟩

/-- The memories of `service` are canonical. -/
theorem service_canonical : service.Canonical :=
  ⟨by decide, by decide, by decide, by decide, by decide, by decide, by decide, by decide⟩

/-- Source 7 used by its channel 0; source 63 used by its channel 15, and no other. -/
theorem witness_TableWritesFollowUse :
    service.Canonical ∧ service.correlator.state = .ready ∧ (loading []).correlator.state ≠ .ready ∧
      [15#8, 1#8, 0#8, 0#8, 0#8, 0#8, 0#8, 0#8, 15#8, 7#8].length = 10 ∧ [63#8, 15#8, 1#8, 0#8, 2#8, 0#8, 1#8].length = 7 ∧
      tableGet none tables0.trunks (7 * 16 + 0) ≠ none ∧ (∀ channel < 16, tableGet none tables0.trunks (63 * 16 + channel) = none) ∧
      let t := { tables0 with trunks := [(1023, some ⟨2, 1⟩)] }
      tableGet none t.trunks (63 * 16 + 15) ≠ none ∧ ∀ channel < 16, tableGet none t.trunks (7 * 16 + channel) = none :=
  ⟨service_canonical, by decide⟩

/-- Live ASSET WRITE entries out of range, past the count, of another parent, of an unloaded class, and one that passes. -/
theorem witness_LiveAssetEditsAreTestedInOrder :
    assetInRange [128, 0, 0, 0, 0, 0, 0, 0] = false ∧ service.correlator.state = .ready ∧
      (loading []).correlator.state ≠ .ready ∧
      (assetInRange [0, 3, 0, 0, 1, 0, 0, 0] = true ∧ service.tables.assetCount ≤ assetIndex [0, 3, 0, 0, 1, 0, 0, 0]) ∧
      (assetInRange [0, 2, 0, 0, 0, 0, 0, 0] = true ∧ assetIndex [0, 2, 0, 0, 0, 0, 0, 0] < service.tables.assetCount ∧
        (assetOf [0, 2, 0, 0, 0, 0, 0, 0]).parent ≠ (service.asset 2).parent) ∧
      (assetInRange [0, 2, 1, 0, 1, 0, 0, 0] = true ∧
        (assetOf [0, 2, 1, 0, 1, 0, 0, 0]).parent = (service.asset 2).parent ∧
        service.loadedClass (assetOf [0, 2, 1, 0, 1, 0, 0, 0]).cls = none) ∧
      service.loadedClass (assetOf [0, 2, 0, 0, 1, 0, 0, 0]).cls = some class0 ∧
      class0.masking = (service.classOf 2).masking ∧ [0#8, 2#8, 0#8, 0#8, 1#8, 0#8, 0#8, 0#8].length = 8 := by decide

/-- `faulted` executing the command with payload `p`. -/
def acting (p : Bytes) : State := { faulted with agent.state := .executing p }

/-- The agent executes in `acting`. -/
theorem acting_executes (p : Bytes) : (acting p).executes p := ⟨rfl, rfl, rfl⟩

/-- QUERY ASSET of a HELD record with the flag, of a CLEAR one, and of the asset count. -/
theorem witness_QueryAssetReadsThenClears :
    ((acting [16, 9, 0, 0, 1]).executes [16#8, 9#8, 0#8, 0#8, 1#8] ∧
      (acting [16, 9, 0, 1, 1]).executes [16#8, 9#8, 0#8, 1#8, 1#8] ∧
      (acting [16, 9, 0, 3, 0]).executes [16#8, 9#8, 0#8, 3#8, 0#8]) ∧
      faulted.correlator.state = .ready ∧ 0 < faulted.tables.assetCount ∧ (faulted.record 0).latch = .held ∧
      (faulted.record 1).latch = .clear ∧ faulted.tables.assetCount ≤ 3 :=
  ⟨⟨acting_executes _, acting_executes _, acting_executes _⟩, by decide⟩

/-- QUERY LIST from HEAD, from a cursor on the list and from one off it, at counts 1 and 13; at the asset count, and at count
14. -/
theorem witness_QueryListReturnsOnePage :
    ((acting [17, 9, 255, 255, 13, 2, 15]).executes [17#8, 9#8, 255#8, 255#8, 13#8, 2#8, 15#8] ∧
      (acting [17, 9, 0, 0, 1, 0, 0]).executes [17#8, 9#8, 0#8, 0#8, 1#8, 0#8, 0#8] ∧
      (acting [17, 9, 0, 2, 1, 1, 0]).executes [17#8, 9#8, 0#8, 2#8, 1#8, 1#8, 0#8] ∧
      (acting [17, 9, 0, 3, 1, 0, 0]).executes [17#8, 9#8, 0#8, 3#8, 1#8, 0#8, 0#8] ∧
      (acting [17, 9, 255, 255, 14, 0, 0]).executes [17#8, 9#8, 255#8, 255#8, 14#8, 0#8, 0#8]) ∧
      0 * 256 + 3 ≠ 65535 ∧ faulted.tables.assetCount ≤ 0 * 256 + 3 ∧ 13 < (14#8).toNat ∧ (13#8).toNat ≤ 13 ∧
      faulted.correlator.state = .ready ∧ 255 * 256 + 255 = 65535 ∧ 0 < faulted.tables.assetCount ∧
      faulted.board = [] ++ 0 :: [1] ∧ 2 < faulted.tables.assetCount ∧ 2 ∉ faulted.board :=
  ⟨⟨acting_executes _, acting_executes _, acting_executes _, acting_executes _, acting_executes _⟩, by decide⟩

/-- Asset 0 restored and HELD, with its place on the list. -/
def restored : State :=
  { service with correlator.records := [(0, { clearRecord with condition := .normal, latch := .held })], board := [0] }

/-- The memories of `faulted` are canonical. -/
theorem faulted_canonical : faulted.Canonical :=
  ⟨by decide, by decide, by decide, by decide, by decide, by decide, by decide, by decide⟩

/-- Asset 1 suppressed under asset 0, to be unmasked or re-attributed to asset 2. -/
theorem witness_ReleaseSettlesItsDependent :
    faulted.Canonical ∧ (faulted.record 1).cause = some 0 ∧ 1 ≠ 0 ∧ 2 ≠ 1 ∧ 2 ≠ 0 := ⟨faulted_canonical, by decide⟩

/-- An asset at the head of the list, one at its tail, and one off it. -/
theorem witness_ClearedLatchLeavesTheList :
    (faulted.board = [] ++ 0 :: [1] ∧ 0 ∉ ([] : List Nat)) ∧ (faulted.board = [0] ++ 1 :: [] ∧ 1 ∉ [0]) ∧
      2 ∉ faulted.board := by decide

/-- ACK FAULT of a HELD, of a CLEAR and of no record; a latch cleared on a faulted record and on a restored one. -/
theorem witness_AckFaultAndTheClearedLatch :
    ((acting [18, 9, 0, 0]).executes [18#8, 9#8, 0#8, 0#8] ∧ (acting [18, 9, 0, 1]).executes [18#8, 9#8, 0#8, 1#8] ∧
      (acting [18, 9, 0, 3]).executes [18#8, 9#8, 0#8, 3#8]) ∧
      (faulted.correlator.state = .ready ∧ (faulted.record 0).latch = .held ∧ (faulted.record 1).latch = .clear ∧
        faulted.tables.assetCount ≤ 3 ∧ (faulted.record 0).faulted = true) ∧
      faulted.Canonical ∧ restored.Canonical ∧ (restored.record 0).faulted = false ∧ 0 ∈ restored.board :=
  ⟨⟨acting_executes _, acting_executes _, acting_executes _⟩, by decide, faulted_canonical,
    ⟨by decide, by decide, by decide, by decide, by decide, by decide, by decide, by decide⟩, by decide⟩

/-- ACK RESTORED with an ACK job in the queue, with a full queue, with an empty one, and with one other job running; with
filter 2, and with zone 16. -/
theorem witness_AckRestoredQueuesOrMerges :
    ((acting [19, 9, 1, 15]).executes [19#8, 9#8, 1#8, 15#8] ∧ (acting [19, 9, 0, 16]).executes [19#8, 9#8, 0#8, 16#8] ∧
      (acting [19, 9, 2, 0]).executes [19#8, 9#8, 2#8, 0#8] ∧ (acting [19, 9, 1, 16]).executes [19#8, 9#8, 1#8, 16#8]) ∧
      1 < (2#8).toNat ∧ 15 < (16#8).toNat ∧
      faulted.correlator.state = .ready ∧ (1#8).toNat ≤ 1 ∧ (15#8).toNat ≤ 15 ∧
      (sweeping (.ack (some 3)) (some 1)).hasAck = true ∧
      ({ faulted with sweep.jobs := fullSweep } : State).hasAck = false ∧ 8 ≤ fullSweep.length ∧
      faulted.sweep.jobs = [] ∧ (sweeping (.adopt 0) (some 1)).hasAck = false ∧
      (sweeping (.adopt 0) (some 1)).sweep.jobs.length < 8 ∧
      (sweeping (.adopt 0) (some 1)).sweep.jobs.head? = some ⟨.adopt 0, .running, some 1, 0⟩ :=
  ⟨⟨acting_executes _, acting_executes _, acting_executes _, acting_executes _⟩, by decide⟩

/-- Asset 0 out of service: HELD, CLEAR, and with a dependent. -/
def outOfService (latch : Latch) (dependents : Nat) : State :=
  { service with
    correlator.records := [(0, { clearRecord with condition := .outOfService, latch := latch, dependents := dependents })] }

/-- SET SERVICE OUT of a HELD and of a CLEAR fault and of a record already out; SET SERVICE IN of a record in service, of one
without dependents, and of one with a dependent and a full Sweep Queue; each of the asset count, and direction 2. -/
theorem witness_SetServiceTakesOutAndReturns :
    ((acting [20, 9, 0, 0, 0]).executes [20#8, 9#8, 0#8, 0#8, 0#8] ∧
      (acting [20, 9, 0, 0, 1]).executes [20#8, 9#8, 0#8, 0#8, 1#8] ∧
      (acting [20, 9, 0, 3, 0]).executes [20#8, 9#8, 0#8, 3#8, 0#8] ∧
      (acting [20, 9, 0, 3, 1]).executes [20#8, 9#8, 0#8, 3#8, 1#8] ∧
      (acting [20, 9, 0, 0, 2]).executes [20#8, 9#8, 0#8, 0#8, 2#8]) ∧
      (acting [20, 9, 0, 0, 0]).Canonical ∧ (outOfService .held 0).Canonical ∧
      (faulted.correlator.state = .ready ∧ 0 < faulted.tables.assetCount ∧
        (faulted.record 0).condition ≠ .outOfService ∧ (faulted.record 0).latch = .held ∧
        (faulted.record 1).latch = .clear ∧ ((outOfService .held 0).record 0).condition = .outOfService ∧
        ((outOfService .held 0).record 0).latch = .held ∧ ((outOfService .held 0).record 0).dependents = 0 ∧
        ((outOfService .clear 0).record 0).latch = .clear ∧ 0 < ((outOfService .clear 1).record 0).dependents ∧
        8 ≤ fullSweep.length ∧ (∀ j ∈ fullSweep, j.walk ≠ .adopt 0 ∧ j.walk ≠ .release 0) ∧
        faulted.tables.assetCount ≤ (0#8).toNat * 256 + (3#8).toNat ∧ 1 < (2#8).toNat) :=
  ⟨⟨acting_executes _, acting_executes _, acting_executes _, acting_executes _, acting_executes _⟩,
    ⟨by decide, by decide, by decide, by decide, by decide, by decide, by decide, by decide⟩,
    ⟨by decide, by decide, by decide, by decide, by decide, by decide, by decide, by decide⟩, by decide⟩

/-- A context of asset 0. -/
def context0 : EscalationContext := ⟨0, 5#20, 0, .major, 25, 950, 1⟩

/-- STORM ON at floors 31 and 32, STORM OFF from CALM and from a storm, with and without a HELD escalation, and action 2. -/
theorem witness_StormCommandsSetTheStormState :
    ((running [24, 9, 1, 31]).executes [24#8, 9#8, 1#8, 31#8] ∧ (running [24, 9, 1, 32]).executes [24#8, 9#8, 1#8, 32#8] ∧
      (running [24, 9, 0, 0]).executes [24#8, 9#8, 0#8, 0#8] ∧ (running [24, 9, 2, 0]).executes [24#8, 9#8, 2#8, 0#8]) ∧
      (31#8).toNat ≤ 31 ∧ 31 < (32#8).toNat ∧ service.storm.state = .calm ∧
      ({ service with storm.state := .manual } : State).storm.state ≠ .calm ∧ service.escalation = .disarmed ∧
      ({ service with storm.state := .manual, escalation := .held context0 } : State).escalation = .held context0 ∧
      1 < (2#8).toNat :=
  ⟨⟨running_executes _, running_executes _, running_executes _, running_executes _⟩, by decide⟩

/-- ESC ARM in each state of the unit. -/
theorem witness_EscArmArmsTheUnit :
    (running [25, 9]).executes [25#8, 9#8] ∧ (running [25, 9]).escalation = .disarmed ∧
      ({ running [25, 9] with escalation := .armed } : State).escalation = .armed ∧
      ({ running [25, 9] with escalation := .raised context0 } : State).escalation = .raised context0 ∧
      ({ running [25, 9] with escalation := .held context0 } : State).escalation = .held context0 :=
  ⟨running_executes _, by decide⟩

/-- ESC ACK in DISARMED and in RAISED, with rearm yes and with rearm 2. -/
theorem witness_EscAckDiscardsTheContext :
    ((running [26, 9, 1]).executes [26#8, 9#8, 1#8] ∧ (running [26, 9, 2]).executes [26#8, 9#8, 2#8]) ∧
      (running [26, 9, 1]).escalation = .disarmed ∧
      ({ running [26, 9, 1] with escalation := .raised context0 } : State).escalation = .raised context0 ∧
      (1#8).toNat ≤ 1 ∧ 1 < (2#8).toNat := ⟨⟨running_executes _, running_executes _⟩, by decide⟩

/-- FLASH ERASE, an erase at the first and at the last block, a FLASH WRITE of the first block, of one past the last and at
offset 1, onto a blank block and one that is not, and a write in progress. -/
theorem witness_FlashErasesAndWritesBlocks :
    ((running [30, 9]).executes [30#8, 9#8] ∧
      (∀ data, (running (31 :: 9 :: 0 :: 0 :: 0 :: 0 :: data)).executes (31#8 :: 9#8 :: 0#8 :: 0#8 :: 0#8 :: 0#8 :: data)) ∧
      (∀ data, (running (31 :: 9 :: 0 :: 16 :: 0 :: 0 :: data)).executes (31#8 :: 9#8 :: 0#8 :: 16#8 :: 0#8 :: 0#8 :: data)) ∧
      (List.replicate 128 0#8).length = 128) ∧
      0 + 1 < 8192 ∧ 8192 ≤ 8191 + 1 ∧ 0 % 128 = 0 ∧ 1 % 128 ≠ 0 ∧ 1048576 ≤ 16 * 65536 ∧
      (∀ k < 128, tableGet 0xFF#8 service.flash (0 + k) = 0xFF#8) ∧
      tableGet 0xFF#8 ({ service with flash := [(127, 0#8)] } : State).flash 127 ≠ 0xFF#8 ∧
      (let s : State := { running [30, 9] with agent.long := some (.erasing 8191) };
        s.inReset = false ∧ s.agent.long = some (.erasing 8191) ∧ s.agent.state = .executing [30, 9]) ∧
      (let s : State := { running [31, 9] with agent.long := some (.writing 8191 [1, 2]) };
        s.inReset = false ∧ s.agent.long = some (.writing 8191 [1, 2]) ∧ s.agent.state = .executing [31, 9] ∧
          Memory.wf s.flash) :=
  ⟨⟨running_executes _, fun _ => running_executes _, fun _ => running_executes _, List.length_replicate⟩, by decide⟩

/-- A chain of five assets 0 ← 1 ← 2 ← 3 ← 4 ← 5, of which asset 0 or 1 is faulted. -/
def chained (root : Nat) : State :=
  { service with
    tables.assets := (List.range 6).map fun i => (i, ⟨0, if i = 0 then none else some (i - 1), 0#20, false, true⟩)
    correlator.records := [(root, standing)] }

/-- The fourth link finds its ancestor; the fifth is not read; a chain may end at parent none. -/
theorem witness_AncestorWalkFindsTheNearest :
    [4, 3, 2, 1].length ≤ 4 ∧
      (∀ k < 4, ∀ p ∈ [4, 3, 2, 1][k]?,
        ((chained 1).asset (if k = 0 then 5 else [4, 3, 2, 1].getD (k - 1) 0)).parent = some p) ∧
      (∀ j < 3, ∀ q ∈ [4, 3, 2, 1][j]?, (chained 1).maskingFaulted q = false) ∧ (chained 1).maskingFaulted 1 = true ∧
      (∀ p ∈ [4, 3, 2, 1], (chained 0).maskingFaulted p = false) ∧ [4, 3, 2, 1].length = 4 ∧
      (∀ p ∈ [1, 0], (chained 5).maskingFaulted p = false) ∧ ((chained 5).asset ([1, 0].getLast?.getD 2)).parent = none := by
  decide

/-- A root first on the walk, itself masking-faulted, with an ancestor at the fourth link, and with none; a chain that ends. -/
theorem witness_ReleaseWalkStepsOverItsRoot :
    (let s : State := { chained 1 with correlator.records := [(1, standing), (4, standing)] };
      (∀ j < 3, ∀ q ∈ [4, 3, 2, 1][j]?, q = 4 ∨ s.maskingFaulted q = false) ∧ s.maskingFaulted 4 = true ∧
        s.maskingFaulted 1 = true ∧ 1 ≠ 4) ∧
      (∀ p ∈ [4, 3, 2, 1], p = 4 ∨ (chained 4).maskingFaulted p = false) ∧
      (∀ p ∈ [1, 0], p = 1 ∨ (chained 1).maskingFaulted p = false) ∧
      ((chained 1).asset ([1, 0].getLast?.getD 2)).parent = none := by decide

/-- A qualification of asset 2 under asset 1, and of asset 0 under none; an asset on the list and one off it. -/
theorem witness_QualificationTakesItsOutcome :
    (faulted.enterFault 2 .fault .major).ancestor 2 = some 1 ∧ (service.enterFault 0 .silent .major).ancestor 0 = none ∧
      (service.classOf 0).masking = true ∧ 0 < (service.classOf 0).adoptionWindow ∧ 0 ∈ faulted.board ∧
      2 ∉ faulted.board := by decide

/-- A count one short of its end and one that reaches it, and a standing fault of each kind. -/
theorem witness_ConditionMachineFollowsTheTable :
    ((graded { clearRecord with condition := .normal } 2 2).record 0).condition = .normal ∧
      1 < ((graded { clearRecord with condition := .normal } 2 2).classOf 0).qualifyCount ∧
      ((graded { clearRecord with condition := .normal } 1 1).classOf 0).qualifyCount ≤ 1 ∧
      (let s := graded { clearRecord with condition := .suspect, run := 1 } 3 3;
        (s.record 0).condition = .suspect ∧ (s.record 0).run + 1 < (s.classOf 0).qualifyCount) ∧
      (let s := graded { clearRecord with condition := .suspect, run := 1 } 2 2;
        (s.record 0).condition = .suspect ∧ (s.classOf 0).qualifyCount ≤ (s.record 0).run + 1) ∧
      (let s := graded standing 2 2;
        (s.record 0).condition = .fault ∧ 1 < (s.classOf 0).restoreCount ∧ (s.record 0).faulted = true ∧
          (s.record 0).cause = none ∧ (s.record 0).severity ≠ .minor) ∧
      (let s := graded { standing with cause := some 2 } 1 1;
        (s.classOf 0).restoreCount = 1 ∧ (s.record 0).cause ≠ none) ∧
      (let s := graded { standing with condition := .recovering, run := 1 } 3 3;
        (s.record 0).condition = .recovering ∧ (s.record 0).run + 1 < (s.classOf 0).restoreCount) ∧
      (let s := graded { standing with condition := .recovering, run := 2 } 2 2;
        (s.record 0).condition = .recovering ∧ (s.classOf 0).restoreCount ≤ (s.record 0).run + 1) := by decide

/-- A holdoff that ends one second from now, one that ends now, one at the top of the time base, and a record with none; a record
out of service; a mark that an item sets and one that it clears. -/
theorem witness_ItemPassesItsGates :
    (let r : FaultRecord := { clearRecord with testUntil := some 1001 };
      r.testUntil = some 1001 ∧ service.agent.time < 1001) ∧
      (¬ service.agent.time < 1000 ∧
        ¬ ({ service with agent.time := 4294967295 } : State).agent.time < 4294967295) ∧ clearRecord.testUntil = none ∧
      ((outOfService .held 0).record 0).condition = .outOfService ∧
      (let r : FaultRecord := { clearRecord with lastStatus := some .ok, flapScore := 2000, flapStamp := 1000 };
        (scoreRecord class0 1000 .failed r).flapping = true ∧ r.flapping = false) ∧
      let r : FaultRecord := { clearRecord with lastStatus := some .ok, flapScore := 1000, flapStamp := 1000, flapping := true }
      (scoreRecord class0 1000 .ok r).flapping = false ∧ r.flapping = true := by decide

/-- A restore held for a place, of an independent record HELD and CLEAR, and of a suppressed one; one with a dependent and a
place, and one with an ADOPT job of tally 2. -/
theorem witness_RestoreSettlesTheRecord :
    (let s : State := { faulted with sweep.jobs := fullSweep };
      0 < (s.record 0).dependents ∧ (∀ j ∈ s.sweep.jobs, j.walk ≠ .adopt 0 ∧ j.walk ≠ .release 0) ∧
        8 ≤ s.sweep.jobs.length) ∧
      (let s := graded standing 2 2;
        (s.record 0).dependents = 0 ∧ s.sweep.jobs = [] ∧ (s.record 0).cause = none ∧ (s.record 0).latch = .held) ∧
      (let s := graded { standing with latch := .clear } 2 2;
        (s.record 0).dependents = 0 ∧ (s.record 0).cause = none ∧ (s.record 0).latch = .clear) ∧
      (faulted.record 1).dependents = 0 ∧ (faulted.record 1).cause ≠ none ∧ (faulted.record 1).latch = .clear ∧
      (0 < (faulted.record 0).dependents ∧ ¬ 8 ≤ faulted.sweep.jobs.length) ∧
      (let s : State := { graded standing 2 2 with sweep.jobs := [⟨.release 1, .running, none, 0⟩, ⟨.adopt 0, .waiting, none, 2⟩] };
        (s.record 0).dependents = 0 ∧ s.sweep.jobs = [⟨.release 1, .running, none, 0⟩] ++ ⟨.adopt 0, .waiting, none, 2⟩ :: [] ∧
          ∀ i ∈ [(⟨.release 1, .running, none, 0⟩ : SweepJob)] ++ [], i.walk ≠ .adopt 0) ∧
      (∀ j ∈ fullSweep, j.walk ≠ .adopt 0) ∧ ∃ j ∈ fullSweep, j.walk = .release 10 := by decide

/-- An ADOPT job with asset 2 before it. -/
theorem witness_AdoptionAttributesTheEntry :
    (sweeping (.adopt 0) (some 2)).sweep.jobs = ⟨.adopt 0, .running, some 2, 0⟩ :: [] ∧ 2 ≠ 0 ∧
      (sweeping (.adopt 0) (some 2)).Canonical :=
  ⟨by decide, by decide, ⟨by decide, by decide, by decide, by decide, by decide, by decide, by decide, by decide⟩⟩

/-- 15 and 16 half-lives, and an alternation between OK and FAILED but not between DEGRADED and FAILED. -/
theorem witness_FlapScoreDecaysAlternatesAndMarks :
    1 ≤ 60 ∧ (1959 - 1000) / 60 < 16 ∧ 16 ≤ (1960 - 1000) / 60 ∧ 1000 ≤ 1959 ∧
      (let r : FaultRecord := { clearRecord with lastStatus := some .ok };
        r.lastStatus = some .ok ∧ ¬ (Status.ok = .ok ↔ Status.failed = .ok)) ∧
      (Status.degraded = .ok ↔ Status.failed = .ok) := by decide

/-- A minor drop within the base priority and one above it. -/
theorem witness_AssetPriorityAddsDropAndBoost :
    class0.minorDrop ≤ class0.basePriority ∧
      ({ class0 with basePriority := 7 } : ClassEntry).basePriority < ({ class0 with basePriority := 7 } : ClassEntry).minorDrop := by
  decide

/-- A storm offer that reaches its trigger of 1 and one with trigger 0; escalating offers to an ARMED unit in CALM and in a
storm, and one that an inhibit keeps. -/
theorem witness_QualificationOffersAreTaken :
    service.agent.config.stormTrigger = 0 ∧
      (let s : State := { service with agent.config.stormTrigger := 1 };
        s.storm.state = .calm ∧ 0 < s.agent.config.stormTrigger ∧
          s.agent.config.stormTrigger ≤ stormRate (countQualification s.storm.buckets 100) 100) ∧
      service.escalation ≠ .armed ∧
      (let s : State := { faulted with escalation := .armed, agent.config.escalationFloor := 20 };
        s.escalation = .armed ∧ s.storm.state = .calm ∧ (s.classOf 0).escalate = true ∧ (s.asset 0).inhibit = false ∧
          s.agent.config.escalationFloor ≤ s.priorityOf .out 0 (s.record 0).severity) ∧
      (let s : State := { faulted with escalation := .armed, agent.config.escalationFloor := 20, storm.state := .auto };
        s.storm.state ≠ .calm) ∧
      let s : State := { faulted with escalation := .armed, agent.config.escalationFloor := 21 }
      ¬ s.agent.config.escalationFloor ≤ s.priorityOf .out 0 (s.record 0).severity := by decide

/-- A full queue of 256 entries about as many assets, all of priority 10. -/
def fullQueue : NoticeQueue := ⟨(List.range 256).map fun i => noticeOf i 10, 0, 0⟩

/-- A request that merges, one that is admitted, and at a full queue one that is dropped and one that evicts the youngest. -/
theorem witness_ArrivalMergesAdmitsOrDrops :
    (noticeOf 1 31).priority ≤ 31 ∧
      ((⟨[noticeOf 0 10, noticeOf 1 10], 0, 0⟩ : NoticeQueue).entries = [noticeOf 0 10] ++ noticeOf 1 10 :: [] ∧
        (noticeOf 0 10).subject ≠ (noticeOf 1 31).subject ∧ (noticeOf 1 10).subject = (noticeOf 1 31).subject ∧
        (noticeOf 1 10).kind.family = (noticeOf 1 31).kind.family) ∧
      (∀ x ∈ [noticeOf 0 10], x.subject ≠ (noticeOf 1 31).subject) ∧ [noticeOf 0 10].length < 256 ∧
      (∀ x ∈ fullQueue.entries, x.subject ≠ (noticeOf 300 10).subject) ∧ 256 ≤ fullQueue.entries.length ∧
      (∀ x ∈ fullQueue.entries, (noticeOf 300 10).priority ≤ x.priority) ∧
      fullQueue.entries = (List.range 255).map (fun i => noticeOf i 10) ++ noticeOf 255 10 :: [] ∧
      (noticeOf 255 10).priority < (noticeOf 300 11).priority ∧
      (∀ x ∈ fullQueue.entries, (noticeOf 255 10).priority ≤ x.priority) := by decide +kernel

/-- A mask off for an OUT, a flapping record's CHANGED, and a request that passes, to an IDLE and a SENDING transmitter; an
address whose lowest template is 3, one that none fits, and LOADING. -/
theorem witness_AssetRequestIsFilteredAndBuilt :
    (let s : State := { faulted with tables.classes := [(0, some { class0 with riseMask := false })] };
      (s.classOf 0).riseMask = false) ∧
      (let s : State := { faulted with correlator.records := [(0, { standing with flapping := true })] };
        (s.record 0).flapping = true) ∧
      ((faulted.classOf 0).riseMask = true ∧ (faulted.record 0).flapping = false ∧ faulted.dport.sending = none) ∧
      (let t : ZoneTemplate := ⟨true, 4#20, 0xFFFFC#20, 3, 5⟩;
        t.valid = true ∧ 5#20 &&& t.mask = t.base &&& t.mask ∧ ¬ 8#20 &&& t.mask = t.base &&& t.mask ∧
          (∀ i < 3, (tableGet invalidTemplate [(3, t)] i).valid = false) ∧ 3 < 16) ∧
      faulted.correlator.state = .ready ∧ (loading []).correlator.state = .loading := by decide

/-- Two entries of the highest priority, the older the head, at the floors of STORM_AUTO and STORM_MANUAL; an
empty queue. -/
theorem witness_HeadIsTheMostUrgentThenOldest :
    let s : State := { service with notices.entries := [noticeOf 0 15, noticeOf 1 16, noticeOf 2 16] }
    s.notices.entries = [noticeOf 0 15] ++ noticeOf 1 16 :: [noticeOf 2 16] ∧
      (∀ x ∈ [noticeOf 0 15], x.priority < (noticeOf 1 16).priority) ∧
      (∀ x ∈ [noticeOf 2 16], x.priority ≤ (noticeOf 1 16).priority) ∧
      ({ s with storm.state := .auto } : State).agent.config.stormFloor ≤ (noticeOf 1 16).priority ∧
      (noticeOf 1 16).priority < ({ s with storm := ⟨.manual, 17, []⟩ } : State).storm.manualFloor ∧
      (noticeOf 1 16).priority ≠ 31 ∧ service.notices.entries = [] := by decide

/-! Each invariant holds in a state with faults in it, and a step of that state answers a next state. -/

/-- `faulted` with a running ADOPT job and a command that steps it. -/
def busy : State := { sweeping (.adopt 0) (some 1) with pending := [.sweepStep], notices.entries := [noticeOf 0 20] }

/-- A step of `busy` answers a next state. -/
theorem busy_steps : ∃ t, step busy = .next t := ⟨_, rfl⟩

/-- The memories of `busy` are canonical. -/
theorem busy_canonical : busy.Canonical :=
  ⟨by decide, by decide, by decide, by decide, by decide, by decide, by decide, by decide⟩

/-- `busy` is within its capacities. -/
theorem busy_capacities : busy.WithinCapacity := by
  have ranges : busy.agent.config.InRange := by constructor <;> decide
  constructor <;> first | exact ranges | decide

/-- The notices of `busy` are apart. -/
theorem busy_noticesApart : busy.NoticesApart := ⟨by decide, by decide, by decide⟩

/-- The Sweep Queue of `busy` is in order. -/
theorem busy_sweepOrdered : busy.SweepOrdered :=
  ⟨by decide, List.pairwise_singleton _ _, by decide, by decide, by decide, by decide⟩

/-- A READY correlator is not asked to be quiet. -/
theorem busy_quiet : busy.QuietUnlessReady :=
  ⟨fun _ h => absurd h (by simp [busy, sweeping, faulted, service, powerOnState]),
    fun _ h => absurd h (by simp [busy, sweeping, faulted, service, powerOnState]), fun h => absurd rfl h⟩

/-- The tables of `busy` are sound. -/
theorem busy_serviceSound : busy.ServiceSound :=
  ⟨busy_canonical, busy_quiet, fun _ => ⟨by decide, by decide, by decide +kernel⟩,
    fun h => absurd h (by simp [busy, sweeping, faulted, service, powerOnState])⟩

/-- The record of an asset of `busy`. -/
theorem busy_record (a : Nat) :
    busy.record a =
      if a = 0 then { standing with dependents := 1 }
      else if a = 1 then { standing with cause := some 0, latch := .clear } else clearRecord := rfl

/-- The runs of `busy` are bounded. -/
theorem busy_runsBounded : busy.RunsBounded := by
  refine ⟨busy_canonical, busy_quiet, fun n c h => ?_, fun a => ?_⟩
  · have h : (if n = 0 then some class0 else none) = some c := h
    split at h
    · obtain rfl := Option.some.inj h
      decide
    · exact absurd h (by simp)
  · rw [busy_record]
    split
    · rfl
    · split <;> rfl

/-- The faults of `busy` are attributed. -/
theorem busy_attributed : busy.Attributed := by
  refine ⟨by decide, fun a h => ?_, fun x => ?_, by decide, fun a => ?_, by decide⟩
  · rw [busy_record] at h ⊢
    split
    · rfl
    · split
      · rfl
      · simp_all [clearRecord]
  · have h : busy.correlator.records =
        [(0, { standing with dependents := 1 }), (1, { standing with cause := some 0, latch := .clear })] := rfl
    rw [busy_record, h]
    by_cases h0 : x = 0
    · subst h0; decide
    · by_cases h1 : x = 1
      · subst h1; decide
      · simp [h0, h1, standing, clearRecord, Ne.symm h0]
  · have h : busy.board = [0, 1] := rfl
    rw [busy_record, h]
    by_cases h0 : a = 0
    · subst h0; decide
    · by_cases h1 : a = 1
      · subst h1; decide
      · simp [h0, h1, FaultRecord.listed, FaultRecord.faulted, Condition.faulted, clearRecord]

/-- The roots of `busy` stand. -/
theorem busy_rootsStand : busy.RootsStand := by
  refine ⟨busy_attributed, busy_sweepOrdered, busy_serviceSound, fun a root h => ?_, fun a h => ?_,
    fun j hj root hw => ?_, fun j hj root hw => ?_, fun a h => ?_, .inl rfl, fun h => absurd rfl h⟩
  · rw [busy_record] at h
    by_cases h0 : a = 0
    · simp [h0, standing, clearRecord] at h
    · by_cases h1 : a = 1
      · subst h1
        obtain rfl : 0 = root := by simpa [standing] using h
        decide
      · simp [h0, h1, clearRecord] at h
  · rw [busy_record] at h
    by_cases h0 : a = 0
    · subst h0
      exact .inl (by decide)
    · by_cases h1 : a = 1 <;> simp [h0, h1, standing, clearRecord] at h
  · obtain rfl : j = ⟨.adopt 0, .running, some 1, 0⟩ := List.mem_singleton.mp hj
    exact nomatch hw
  · obtain rfl : (⟨.adopt 0, .running, some 1, 0⟩ : SweepJob) = j := Option.some.inj hj
    exact nomatch hw
  · have h : 3 ≤ a := h
    rw [busy_record, if_neg (by omega), if_neg (by omega)]

/-- A state that meets the premise, and its step. -/
theorem witness_EveryStepKeepsMemoriesCanonical :
    busy.Canonical ∧ ∃ t, step busy = .next t := ⟨busy_canonical, busy_steps⟩

/-- A state that meets the premise, and its step. -/
theorem witness_EveryStepKeepsCapacities :
    busy.WithinCapacity ∧ busy.RootsStand ∧ ∃ t, step busy = .next t := ⟨busy_capacities, busy_rootsStand, busy_steps⟩

/-- A state that meets the premise, and its step. -/
theorem witness_EveryStepKeepsNoticesApart :
    busy.NoticesApart ∧ ∃ t, step busy = .next t := ⟨busy_noticesApart, busy_steps⟩

/-- A state that meets the premise, and its step. -/
theorem witness_EveryStepKeepsTheSweepQueue :
    busy.SweepOrdered ∧ ∃ t, step busy = .next t := ⟨busy_sweepOrdered, busy_steps⟩

/-- A state that meets the premise, and its step. -/
theorem witness_EveryStepKeepsServiceTablesSound :
    busy.ServiceSound ∧ ∃ t, step busy = .next t := ⟨busy_serviceSound, busy_steps⟩

/-- A state that meets the premise, and its step. -/
theorem witness_EveryStepKeepsRunsBounded :
    busy.RunsBounded ∧ ∃ t, step busy = .next t := ⟨busy_runsBounded, busy_steps⟩

/-- A state that meets the premise, and its step. -/
theorem witness_EveryStepKeepsFaultsAttributed :
    busy.Attributed ∧ busy.RootsStand ∧ ∃ t, step busy = .next t := ⟨busy_attributed, busy_rootsStand, busy_steps⟩

end Sys2Proof.Tests
end

/-! The arithmetic of the correlator (02_correlator_arithmetic.md): time and its deadlines, the scanner's silence, the flap
score, the offers of a qualification, the check word, the arrival of a notice, and what every command leaves of the registers
and of the Notice Queue. -/

namespace Sys2Proof.Machine

/-! ## Time, priorities and deadlines -/

/-- Settles O48: the three cases of R38's severity, and the stop at 31. -/
theorem assetPriorityAddsDropAndBoost : Obligations.AssetPriorityAddsDropAndBoost := by
  unfold Obligations.AssetPriorityAddsDropAndBoost
  intro c boost
  refine ⟨rfl, fun _ => rfl, fun h => ?_, fun severity => Nat.min_le_left _ _⟩
  have hd : c.basePriority - c.minorDrop = 0 := by omega
  simp [assetPriority, Config.priorityTop, hd]

/-- The watchdog test in the words of R149. -/
theorem State.watchdogExpired_iff (s : State) :
    s.watchdogExpired = true ↔ s.link.state = .pass ∧ 0 < s.agent.config.passThreshold ∧
      2 * s.agent.config.keepalive < s.agent.time - max (s.link.lastGood.getD 0) (s.link.passedAt.getD 0) := by
  simp only [State.watchdogExpired, State.linkPass, Bool.and_eq_true, decide_eq_true_eq, and_assoc]
  rfl

/-- The silence test of a source in the words of R156. -/
theorem State.sourceExpired_iff (s : State) (n : Nat) :
    s.sourceExpired n = true ↔ s.correlator.state = .ready ∧ s.agent.mode ≠ .passThrough ∧ s.link.state = .pass ∧
      ((s.source n).state = .waiting ∨ (s.source n).state = .alive) ∧
      s.agent.config.keepalive * s.agent.config.sourceMultiple <
        s.agent.time - max ((s.source n).lastFrameTime.getD 0) s.correlator.resumeTime := by
  simp only [State.sourceExpired, State.sourcesTested, State.ready, State.correlating, State.linkPass, Bool.and_eq_true,
    Bool.or_eq_true, decide_eq_true_eq, and_assoc]
  rfl

/-- The sources found due are the nodes whose silence test holds. -/
theorem State.mem_expiredSources (s : State) (n : Nat) : n ∈ s.expiredSources ↔ n < 64 ∧ s.sourceExpired n = true := by
  simp [State.expiredSources, Config.sourceLimit]

/-- Out of reset TIME_BASE_ADVANCE is the advance. -/
theorem exec_timeBaseAdvance {s : State} (h : s.inReset = false) : exec .timeBaseAdvance s = .next s.advance := by
  simp [exec, execTimeBaseAdvance, h]

/-- A time base at its end holds. -/
theorem State.advance_of_top {s : State} (h : 4294967295 ≤ s.agent.time) : s.advance = s := by
  simp [State.advance, Config.timeTop, Nat.not_lt.mpr h]

/-- Settles O6: the advance below the end evaluates R34's two tests at the new time. -/
theorem timeBaseAdvancesByOne : Obligations.TimeBaseAdvancesByOne := by
  unfold Obligations.TimeBaseAdvancesByOne
  intro s hr
  rw [exec_timeBaseAdvance hr]
  refine ⟨fun hlt => ?_, fun hge => by rw [State.advance_of_top hge]⟩
  let later : State := { s with agent.time := s.agent.time + 1 }
  refine ⟨later.watchdogExpired, later.expiredSources, ?_, later.watchdogExpired_iff, fun n => ?_⟩
  · simp [State.advance, Config.timeTop, hlt, later]
  · rw [later.mem_expiredSources, later.sourceExpired_iff]
    rfl

/-- LINK_WATCHDOG_EXPIRY acts on a marked watchdog that is still expired, and on no other. -/
theorem exec_linkWatchdogExpiry (s : State) : exec .linkWatchdogExpiry s =
    .next (if s.inReset = false ∧ s.link.watchdogDue = true ∧ s.watchdogExpired = true then s.leavePass .qualifying
      else s) := by
  simp [exec, execLinkWatchdogExpiry]

/-- SOURCE_SILENT acts on a marked source whose window is still run out, and on no other. -/
theorem exec_sourceSilent (n : Nat) (s : State) : exec (.sourceSilent n) s =
    .next (if s.inReset = false ∧ n ∈ s.sources.due ∧ s.sourceExpired n = true then
        { s with sources.due := s.sources.due.erase n }.silenceSource n
      else s) := by
  simp [exec, execSourceSilent]

/-- Settles O7: each expiry acts exactly where its mark and its test both stand. -/
theorem deadlinesExpire : Obligations.DeadlinesExpire := by
  unfold Obligations.DeadlinesExpire
  refine ⟨fun s hr hd hp hn ht => ?_, fun n s _ hr hd hc hm hp hs ht => ?_, fun s => ⟨fun hd => ?_, fun n hd => ?_,
    fun hf => ?_, fun n hf => ?_⟩⟩
  · rw [exec_linkWatchdogExpiry, if_pos ⟨hr, hd, s.watchdogExpired_iff.mpr ⟨hp, hn, ht⟩⟩]
    rfl
  · rw [exec_sourceSilent, if_pos ⟨hr, hd, (s.sourceExpired_iff n).mpr ⟨hc, hm, hp, hs, ht⟩⟩]
    rfl
  · rw [exec_linkWatchdogExpiry, if_neg (by simp [hd])]
  · rw [exec_sourceSilent, if_neg (by simp [hd])]
  · rw [exec_linkWatchdogExpiry, if_neg]
    rw [s.watchdogExpired_iff]
    rintro ⟨-, -, hp, hn, ht⟩
    rcases hf with hf | hf | hf
    · exact hf hp
    · omega
    · omega
  · rw [exec_sourceSilent, if_neg]
    rw [s.sourceExpired_iff]
    rintro ⟨-, -, hc, hm, hp, hs, ht⟩
    rcases hf with hf | hf | hf | ⟨hw, ha⟩ | hf
    · exact hf hc
    · exact hm hf
    · exact hf hp
    · exact hs.elim hw ha
    · omega

/-- The bytes of a TIME SET argument read high byte first. -/
theorem numAt_four (a b c d : Byte) :
    numAt [a, b, c, d] 0 4 = a.toNat * 16777216 + b.toNat * 65536 + c.toNat * 256 + d.toNat := by
  simp [numAt, bigEndian]
  omega

/-- A payload of vector 3 is TIME SET's. -/
theorem commandRow_timeSet (tag : Byte) (args : Bytes) : commandRow (3#8 :: tag :: args) = .timeSet := by
  simp [commandRow, byteAt]

/-- An answer leaves the reset and the time base as they were. -/
theorem State.answered_frame (s : State) (p : Bytes) (v : ReplyStatus) (r : Bytes) :
    (s.answered p v r).inReset = s.inReset ∧ (s.answered p v r).agent.time = s.agent.time := by
  simp [State.answered]

/-- Settles O24: TIME SET's body by the length of its argument. -/
theorem timeSetReplacesTheTimeBase : Obligations.TimeSetReplacesTheTimeBase := by
  unfold Obligations.TimeSetReplacesTheTimeBase
  intro s tag args he
  obtain ⟨hreset, -, hstate⟩ := id he
  have hrun : exec .timeSet s = .next (timeSetBody (3#8 :: tag :: args) s).settle := by
    rw [← State.runRow_executes he (commandRow_timeSet tag args)]
    rfl
  refine ⟨fun hlen => ?_, ?_⟩
  · rw [hrun, timeSetBody, if_pos (by simpa [argumentLength, arguments] using hlen), refuse_settle hstate]
  · rintro a b c d rfl
    have hset : exec .timeSet s =
        .next ((s.setTime (numAt [a, b, c, d] 0 4)).answered [3#8, tag, a, b, c, d] .done []) := by
      have hset : (s.setTime (numAt [a, b, c, d] 0 4)).agent.state = .executing [3#8, tag, a, b, c, d] := hstate
      rw [hrun, timeSetBody, if_neg (by simp [argumentLength, arguments])]
      exact congrArg _ (done_settle hset)
    rw [numAt_four] at hset
    refine ⟨hset, fun stored h => Nat.sub_eq_zero_of_le h, fun htop t ht => ?_⟩
    obtain rfl := Host.Outcome.next.inj (hset.symm.trans ht)
    obtain ⟨hr, htime⟩ := State.answered_frame (s.setTime _) [3#8, tag, a, b, c, d] .done []
    rw [exec_timeBaseAdvance (by rw [hr]; exact hreset), State.advance_of_top]
    rw [htime, State.setTime_time]
    omega

/-! ## The Silence Scanner -/

/-- The scanner runs in the words of R86. -/
theorem State.scannerRuns_iff (s : State) : s.scannerRuns = true ↔
    s.inReset = false ∧ s.correlator.state = .ready ∧ s.agent.mode ≠ .passThrough ∧ s.link.state = .pass := by
  simp [State.scannerRuns, State.ready, State.correlating, State.linkPass, and_assoc]

/-- SCANNER_VISIT of a running scanner with assets is one visit, and nothing otherwise. -/
theorem exec_scannerVisit (s : State) : exec .scannerVisit s =
    .next (if s.scannerRuns = true ∧ 0 < s.tables.assetCount then s.scanOnce else s) := rfl

/-- A record's last source shields it unless it has none or it is ALIVE (R88). -/
theorem State.unshielded_iff (s : State) (a : Nat) :
    s.unshielded a = true ↔ ∀ n, (s.record a).lastSource = some n → (s.source n).state = .alive := by
  simp only [State.unshielded]
  split <;> simp [*]

/-- A silent record in the words of R33 and R88. -/
theorem State.silentNow_iff (s : State) (a : Nat) : s.silentNow a = true ↔
    (s.record a).condition.scanned = true ∧ 0 < (s.classOf a).silenceMultiple ∧
      (∀ n, (s.record a).lastSource = some n → (s.source n).state = .alive) ∧
      (s.classOf a).reportPeriod * (s.classOf a).silenceMultiple < s.agent.time - s.silenceReference a := by
  simp only [State.silentNow, Bool.and_eq_true, decide_eq_true_eq, s.unshielded_iff, and_assoc]
  rfl

/-- Silence qualifies a record with no standing fault (R89). -/
theorem State.goSilent_fresh {s : State} {a : Nat}
    (h : (s.record a).condition = .unknown ∨ (s.record a).condition = .normal ∨ (s.record a).condition = .suspect) :
    s.goSilent a = s.qualify a .silent .major .silent := by
  rcases h with h | h | h <;> simp [State.goSilent, h]

/-- A standing fault goes SILENT in place (R90). -/
theorem State.goSilent_standing {s : State} {a : Nat}
    (h : (s.record a).condition = .fault ∨ (s.record a).condition = .recovering) :
    s.goSilent a = s.silenceStanding a := by
  rcases h with h | h <;> simp [State.goSilent, h]

/-- The scanned conditions are the fresh and the standing ones (R88). -/
theorem Condition.scanned_iff (c : Condition) : c.scanned = true ↔
    (c = .unknown ∨ c = .normal ∨ c = .suspect) ∨ c = .fault ∨ c = .recovering := by
  cases c <;> simp [Condition.scanned]

/-- Settles O18: one visit, by the condition of the record and its deadline. -/
theorem scannerVisitFindsSilence : Obligations.ScannerVisitFindsSilence := by
  unfold Obligations.ScannerVisitFindsSilence
  refine ⟨fun s hr hc hm hp ha => ?_, fun s h => ?_⟩
  · intro a r c moved restored fresh standing silent quiet
    have hrun : exec .scannerVisit s = .next (if moved.silentNow a then moved.goSilent a else moved) := by
      rw [exec_scannerVisit, if_pos ⟨s.scannerRuns_iff.mpr ⟨hr, hc, hm, hp⟩, ha⟩]
      rfl
    have hrestored : (s.lastSourceRestored a).getD 0 = restored := by
      simp only [State.lastSourceRestored, restored, r]
      cases (s.record a).lastSource <;> rfl
    have hsilent : moved.silentNow a = true ↔ (fresh ∨ standing) ∧ silent := by
      rw [moved.silentNow_iff, Condition.scanned_iff]
      simp only [silent, ← hrestored]
      rfl
    rw [hrun]
    refine ⟨fun h => ?_, fun hf hs => ?_, fun hf hs hcause => ?_, fun hf hs hcause => ?_⟩
    · rw [if_neg]
      rw [hsilent]
      rintro ⟨hcond, hs⟩
      exact h.elim (fun hn => hcond.elim hn.1 hn.2) fun hn => hn hs
    · have hgo : moved.goSilent a = moved.qualify a .silent .major .silent := State.goSilent_fresh hf
      rw [if_pos (hsilent.mpr ⟨.inl hf, hs⟩), hgo]
    · have hgo : moved.goSilent a = moved.silenceStanding a := State.goSilent_standing hf
      rw [if_pos (hsilent.mpr ⟨.inr hf, hs⟩), hgo, State.silenceStanding]
      exact congrArg _ (if_neg hcause)
    · have hgo : moved.goSilent a = moved.silenceStanding a := State.goSilent_standing hf
      rw [if_pos (hsilent.mpr ⟨.inr hf, hs⟩), hgo, State.silenceStanding]
      exact congrArg _ (if_pos hcause)
  · rw [exec_scannerVisit, if_neg]
    rw [s.scannerRuns_iff]
    rintro ⟨⟨-, hc, hm, hp⟩, ha⟩
    rcases h with h | h | h | h
    · exact h hc
    · exact hm h
    · exact h hp
    · omega

/-! ## Flap scoring -/

/-- Whole half-lives up to now end no later than now and less than a half-life before it (R35). -/
theorem halfLives_bound {h stamp now : Nat} (hh : 1 ≤ h) (hs : stamp ≤ now) :
    stamp + (now - stamp) / h * h ≤ now ∧ now - (stamp + (now - stamp) / h * h) < h := by
  have hdiv : (now - stamp) / h * h + (now - stamp) % h = now - stamp := Nat.div_add_mod' _ _
  have hmod : (now - stamp) % h < h := Nat.mod_lt _ hh
  omega

/-- An alternation in the words of R36. -/
theorem alternates_iff (last : Option Status) (status : Status) :
    alternates last status = true ↔ ∃ l, last = some l ∧ ¬ (l = .ok ↔ status = .ok) := by
  cases last with
  | none => simp [alternates]
  | some l => simp [alternates, decide_eq_decide]

/-- The mark after the threshold tests, by what it was (R37). -/
theorem flapMark_eq (on off score : Nat) (flapping : Bool) :
    flapMark on off score flapping = if flapping = true then decide (off < score) else decide (on ≤ score) := by
  simp [flapMark, ← decide_not]

/-- Settles O47: the decay by its two cases, and the scoring of an item after it. -/
theorem flapScoreDecaysAlternatesAndMarks : Obligations.FlapScoreDecaysAlternatesAndMarks := by
  unfold Obligations.FlapScoreDecaysAlternatesAndMarks
  refine ⟨fun h score stamp now hh => ?_, fun c now status r => ?_⟩
  · intro n
    refine ⟨fun hn => if_pos hn, fun hn => ⟨if_neg (Nat.not_le.mpr hn), halfLives_bound hh⟩⟩
  · intro decayed alternation
    refine ⟨flapAdd c.flapWeight decayed.1 (alternates r.lastStatus status), fun ha => ?_, fun ha => ?_, ?_⟩
    · rw [(alternates_iff ..).mpr ha]
      rfl
    · rw [Bool.eq_false_iff.mpr (mt (alternates_iff ..).mp ha)]
      rfl
    · rw [← flapMark_eq]
      rfl

/-! ## Offers to the Storm Monitor and the Escalation Unit -/

/-- The bucket written by a qualification (R41). -/
theorem countQualification_eq (bs : Table Bucket) (k : Nat) : countQualification bs k =
    tableSet emptyBucket bs (k % 6)
      ⟨k, if (tableGet emptyBucket bs (k % 6)).period = k then
        min 4095 ((tableGet emptyBucket bs (k % 6)).count + 1) else 1⟩ := by
  simp only [countQualification, Config.bucketTop]
  split <;> rfl

/-- A counted bucket is not empty, so that it reads back from any memory. -/
theorem countedBucket_ne_empty (k n : Nat) (same : Prop) [Decidable same] :
    (⟨k, if same then min 4095 (n + 1) else 1⟩ : Bucket) ≠ emptyBucket := by
  intro h
  have hcount : (if same then min 4095 (n + 1) else 1) = 0 := congrArg Bucket.count h
  split at hcount <;> omega

/-- The severity that R38 uses in the words of R39. -/
theorem prioritySeverity_eq (kind : NoticeKind) (severity : Severity) :
    prioritySeverity kind severity = if kind = .silent ∨ severity = .none then .major else severity := by
  cases kind <;> cases severity <;> rfl

/-- The priority of an asset notice with R39's severity written out. -/
theorem State.priorityOf_eq (s : State) (kind : NoticeKind) (a : Nat) (severity : Severity) :
    s.priorityOf kind a severity = assetPriority (s.classOf a) (s.zoneLookup (s.asset a).address).2
      (if kind = .silent ∨ severity = .none then .major else severity) := by
  rw [State.priorityOf, prioritySeverity_eq]

/-- An escalating offer in the words of R117. -/
theorem State.escalating_iff (s : State) (c : EscalationContext) : s.escalating c = true ↔
    (s.classOf c.asset).escalate = true ∧ (s.asset c.asset).inhibit = false ∧
      s.agent.config.escalationFloor ≤ c.priority := by
  simp [State.escalating, and_assoc]

/-- An offer to a unit that is not ARMED changes nothing (R118). -/
theorem State.offerEscalation_of_ne {s : State} (h : s.escalation ≠ .armed) (kind : NoticeKind) (a : Nat) :
    s.offerEscalation kind a = s := by
  cases he : s.escalation with
  | armed => exact absurd he h
  | disarmed | raised | held => simp [State.offerEscalation, he]

/-- An ARMED unit tests the context it would capture (R118, R119). -/
theorem State.offerEscalation_armed {s : State} (h : s.escalation = .armed) (kind : NoticeKind) (a : Nat) :
    s.offerEscalation kind a =
      if s.escalating (s.offerContext kind a) then
        if s.storm.state = .calm then s.raise (s.offerContext kind a)
        else { s with escalation := .held (s.offerContext kind a) }
      else s := by
  simp [State.offerEscalation, h]

/-- Settles O49: the count and the rate of a storm offer, and the test of an ARMED unit. -/
theorem qualificationOffersAreTaken : Obligations.QualificationOffersAreTaken := by
  unfold Obligations.QualificationOffersAreTaken
  refine ⟨fun s => ?_, fun s kind a => ?_⟩
  · intro k old buckets counted rate trigger
    have hb : buckets = tableSet emptyBucket s.storm.buckets (k % 6)
        ⟨k, if old.period = k then min 4095 (old.count + 1) else 1⟩ := countQualification_eq ..
    have hrate : stormRate buckets k = rate := by simp only [stormRate, List.map_map, rate]; rfl
    have hoffer : s.offerStorm = if s.storm.state = .calm ∧ 0 < trigger ∧ trigger ≤ rate then
        { counted with storm.state := .auto }.arrive
          ⟨.storm, .storm, .unknown, .none, none, s.agent.config.stormFloor, 0, 31, s.agent.time, 1, some rate, 0#20⟩
        else counted := by rw [← hrate]; rfl
    refine ⟨?_, fun i hi => ?_, fun h => ?_, fun hc ht hr => ?_⟩
    · rw [hb]
      exact tableGet_tableSet_of_ne _ _ _ (countedBucket_ne_empty k old.count _)
    · rw [hb]
      exact tableGet_tableSet_ne _ _ _ hi
    · rw [hoffer, if_neg]
      rintro ⟨hc, ht, hr⟩
      rcases h with h | h | h
      · exact h hc
      · omega
      · omega
    · rw [hoffer, if_pos ⟨hc, ht, hr⟩]
  · intro c escalating
    have hc : s.offerContext kind a = c := by simp only [State.offerContext, State.priorityOf_eq, c]
    have he : s.escalating (s.offerContext kind a) = true ↔ escalating := by rw [s.escalating_iff, hc]
    refine ⟨fun h => State.offerEscalation_of_ne h kind a, fun h hn => ?_, fun h ht hs => ?_, fun h ht hs => ?_⟩
    · rw [State.offerEscalation_armed h, if_neg (mt he.mp hn)]
    · rw [State.offerEscalation_armed h, if_pos (he.mpr ht), if_neg hs, hc]
    · rw [State.offerEscalation_armed h, if_pos (he.mpr ht), if_pos hs, hc]
      rfl

/-! ## The check word -/

/-- Two bytes as a word, high byte first. -/
theorem toNat_word (b c : Byte) : (b ++ c : BitVec 16).toNat = b.toNat * 256 + c.toNat := by
  have hc : c.toNat < 2 ^ 8 := c.isLt
  rw [BitVec.toNat_append, ← Nat.shiftLeft_add_eq_or_of_lt hc, Nat.shiftLeft_eq]

/-- The addition of R43, step 2, on numbers below 65,536. -/
def addCarry (m n : Nat) : Nat := if m + n < 65536 then m + n else m + n - 65536 + 1

/-- Addition with end-around carry is `addCarry` of the numbers. -/
theorem toNat_addEndAround (a b : BitVec 16) : (addEndAround a b).toNat = addCarry a.toNat b.toNat := by
  have ha := a.isLt
  have hb := b.isLt
  simp only [addEndAround, addCarry]
  split <;> rw [BitVec.toNat_ofNat] <;> omega

/-- A fold of words with end-around carry is the fold of their numbers. -/
theorem toNat_foldl_addEndAround (ws : List (BitVec 16)) (a : BitVec 16) :
    (ws.foldl addEndAround a).toNat = (ws.map BitVec.toNat).foldl addCarry a.toNat := by
  induction ws generalizing a with
  | nil => rfl
  | cons w ws ih => simp only [List.foldl_cons, List.map_cons, ih, toNat_addEndAround]

/-- The numbers of the words of a run of bytes (R43, step 1). -/
def wordValues (bs : Bytes) : List Nat :=
  (List.range ((bs.length + 1) / 2)).map fun k => byteAt bs (2 * k) * 256 + byteAt bs (2 * k + 1)

/-- The words of a run of two bytes more begin with the word of those. -/
theorem wordValues_cons_cons (b c : Byte) (rest : Bytes) :
    wordValues (b :: c :: rest) = (b.toNat * 256 + c.toNat) :: wordValues rest := by
  have hlen : ((b :: c :: rest).length + 1) / 2 = (rest.length + 1) / 2 + 1 := by simp; omega
  simp only [wordValues, hlen, List.range_succ_eq_map, List.map_cons, List.map_map]
  simp only [byteAt, List.getD_cons_zero, List.getD_cons_succ, Nat.mul_zero, Nat.zero_add]
  rfl

/-- `wordsOf` and `wordValues` are the same words. -/
theorem map_toNat_wordsOf (bs : Bytes) : (wordsOf bs).map BitVec.toNat = wordValues bs := by
  induction bs using wordsOf.induct with
  | case1 => rfl
  | case2 b => simp [wordsOf, wordValues, byteAt, toNat_word]
  | case3 b c rest ih => rw [wordValues_cons_cons, ← ih, wordsOf, List.map_cons, toNat_word]

/-- The sum of a run of bytes, as a number (R43, step 2). -/
theorem toNat_endAroundSum (bs : Bytes) :
    (endAroundSum (wordsOf bs)).toNat = (wordValues bs).foldl addCarry 0 := by
  rw [endAroundSum, toNat_foldl_addEndAround, map_toNat_wordsOf]
  rfl

/-- The check word as a number (R43, step 3). -/
theorem toNat_checkWord (bs : Bytes) : (checkWord bs).toNat = 65535 - (wordValues bs).foldl addCarry 0 := by
  have hlt := (endAroundSum (wordsOf bs)).isLt
  rw [checkWord, BitVec.toNat_sub, ← toNat_endAroundSum]
  simp only [BitVec.toNat_ofNat]
  omega

/-- A receiver adds the last two bytes to the sum of those before them (R44). -/
theorem receivedSum_append (bs : Bytes) (hi lo : Byte) : receivedSum (bs ++ [hi, lo]) =
    addEndAround (endAroundSum (wordsOf bs)) (BitVec.ofNat 16 (hi.toNat * 256 + lo.toNat)) := by
  simp [receivedSum, bigEndian]

/-- The receiver's sum as a number. -/
theorem toNat_receivedSum_append (bs : Bytes) (hi lo : Byte) : (receivedSum (bs ++ [hi, lo])).toNat =
    addCarry ((wordValues bs).foldl addCarry 0) (hi.toNat * 256 + lo.toNat) := by
  have hhi := hi.isLt
  have hlo := lo.isLt
  rw [receivedSum_append, toNat_addEndAround, toNat_endAroundSum, BitVec.toNat_ofNat, Nat.mod_eq_of_lt (by omega)]

/-! ### A damaged byte

With end-around carry a sum is its plain total modulo 65,535. A byte weighs 256 in the high place of its word and 1 in
the low, so a change of one byte moves the total by less than 65,535. -/

/-- End-around carry keeps the total modulo 65,535. -/
theorem addCarry_mod (m n : Nat) : addCarry m n % 65535 = (m + n) % 65535 := by
  simp only [addCarry]
  split <;> omega

/-- A fold with end-around carry is the plain sum modulo 65,535. -/
theorem foldl_addCarry_mod (ns : List Nat) (a : Nat) : ns.foldl addCarry a % 65535 = (a + ns.sum) % 65535 := by
  induction ns generalizing a with
  | nil => simp
  | cons n ns ih =>
    have hn := addCarry_mod a n
    rw [List.foldl_cons, ih, List.sum_cons]
    omega

/-- The plain total of a frame: its words, and its check word. -/
def frameTotal (bs : Bytes) (hi lo : Byte) : Nat := (wordValues bs).sum + (hi.toNat * 256 + lo.toNat)

/-- The receiver's sum is the frame's total modulo 65,535. -/
theorem receivedSum_mod (bs : Bytes) (hi lo : Byte) :
    (receivedSum (bs ++ [hi, lo])).toNat % 65535 = frameTotal bs hi lo % 65535 := by
  have hfold := foldl_addCarry_mod (wordValues bs) 0
  rw [toNat_receivedSum_append, addCarry_mod, frameTotal]
  omega

/-- `t'` is the total `t` after one byte of weight 256 or 1 has gone from `old` to `new`. -/
def ByteMoved (t t' old new : Nat) : Prop := t' + 256 * old = t + 256 * new ∨ t' + old = t + new

/-- Totals that agree modulo 65,535 are those of an unchanged byte. -/
theorem ByteMoved.eq_of_mod {t t' : Nat} {old new : Byte} (h : ByteMoved t t' old.toNat new.toNat)
    (hmod : t % 65535 = t' % 65535) : old = new := by
  have ho := old.isLt
  have hn := new.isLt
  apply BitVec.eq_of_toNat_eq
  rcases h with h | h <;> omega

/-- One byte replaced moves the total of the words by its weight. -/
theorem byteMoved_wordValues_set (bs : Bytes) (i : Nat) (h : i < bs.length) (b : Byte) :
    ByteMoved (wordValues bs).sum (wordValues (bs.set i b)).sum bs[i].toNat b.toNat := by
  induction bs using wordsOf.induct generalizing i with
  | case1 => simp at h
  | case2 a =>
    obtain rfl : i = 0 := by simpa using h
    simp [ByteMoved, wordValues, byteAt]
    omega
  | case3 a c rest ih =>
    match i with
    | 0 => simp only [List.set_cons_zero, wordValues_cons_cons, List.sum_cons, ByteMoved, List.getElem_cons_zero]; omega
    | 1 =>
      simp only [List.set_cons_zero, List.set_cons_succ, wordValues_cons_cons, List.sum_cons, ByteMoved,
        List.getElem_cons_zero, List.getElem_cons_succ]
      omega
    | i + 2 =>
      have ih := ih i (by simpa using h)
      simp only [ByteMoved, List.set_cons_succ, wordValues_cons_cons, List.sum_cons, List.getElem_cons_succ] at ih ⊢
      omega

/-- A frame of two bytes or more ends in its check word. -/
theorem exists_checkBytes {f : Bytes} (h : 2 ≤ f.length) : ∃ bs hi lo, f = bs ++ [hi, lo] := by
  obtain ⟨hi, lo, hlast⟩ : ∃ hi lo, f.drop (f.length - 2) = [hi, lo] := List.length_eq_two.mp (by simp; omega)
  exact ⟨f.take (f.length - 2), hi, lo, by rw [← hlast, List.take_append_drop]⟩

/-- One byte of a frame replaced, in its words or in its check word, moves the frame's total by its weight. -/
theorem exists_byteMoved_set (bs : Bytes) (hi lo : Byte) (i : Nat) (h : i < (bs ++ [hi, lo]).length) (b : Byte) :
    ∃ bs' hi' lo', (bs ++ [hi, lo]).set i b = bs' ++ [hi', lo'] ∧
      ByteMoved (frameTotal bs hi lo) (frameTotal bs' hi' lo') (bs ++ [hi, lo])[i].toNat b.toNat := by
  by_cases hi_lt : i < bs.length
  · have hmoved := byteMoved_wordValues_set bs i hi_lt b
    refine ⟨bs.set i b, hi, lo, List.set_append_left _ _ hi_lt, ?_⟩
    rw [List.getElem_append_left hi_lt]
    simp only [ByteMoved, frameTotal] at hmoved ⊢
    omega
  · obtain ⟨k, rfl⟩ := Nat.exists_eq_add_of_le (Nat.not_lt.mp hi_lt)
    have hk : k < 2 := by simpa using h
    match k with
    | 0 => exact ⟨bs, b, lo, by simp, by simp [ByteMoved, frameTotal]; omega⟩
    | 1 => exact ⟨bs, hi, b, by simp, by simp [ByteMoved, frameTotal]; omega⟩

/-- Settles O10: a damaged byte moves the total modulo 65,535, on which a good sum depends. -/
theorem singleDamagedByteIsDetected : Obligations.SingleDamagedByteIsDetected := by
  unfold Obligations.SingleDamagedByteIsDetected
  refine ⟨fun f i b hlen hi hne hgood hdamaged => ?_, toNat_checkWord, toNat_receivedSum_append⟩
  obtain ⟨bs, h, l, rfl⟩ := exists_checkBytes (by omega : 2 ≤ f.length)
  obtain ⟨bs', h', l', hset, hmoved⟩ := exists_byteMoved_set bs h l i hi b
  have hmod : frameTotal bs h l % 65535 = frameTotal bs' h' l' % 65535 := by
    rw [← receivedSum_mod, ← receivedSum_mod, hgood, ← hset, hdamaged]
  exact hne (by rw [List.getElem?_eq_getElem hi, hmoved.eq_of_mod hmod])

/-! ## The judgement of a frame -/

/-- A number below 65,536 in two bytes reads back. -/
theorem bytes_toNat {n : Nat} (h : n < 65536) :
    (BitVec.ofNat 8 (n / 256)).toNat * 256 + (BitVec.ofNat 8 n).toNat = n := by
  simp only [BitVec.toNat_ofNat]
  omega

/-- A run of bytes closed by its check word sums to 0xFFFF (R44). -/
theorem receivedSum_sealFrame (bs : Bytes) : receivedSum (sealFrame bs) = 0xFFFF#16 := by
  have hsum := (endAroundSum (wordsOf bs)).isLt
  apply BitVec.eq_of_toNat_eq
  rw [sealFrame, byte2, toNat_receivedSum_append, bytes_toNat (checkWord bs).isLt, toNat_checkWord,
    ← toNat_endAroundSum, addCarry]
  split
  · exact Nat.add_sub_cancel' (by omega)
  · omega

/-- The form test in the words of R163, step 3. -/
theorem wellShaped_iff (f : Bytes) : wellShaped f = true ↔
    1 ≤ byteAt f 0 ∧ byteAt f 0 ≤ 5 ∧ byteAt f 1 ≤ 63 ∧ byteAt f 2 ≤ 15 ∧ byteAt f 4 ≤ 240 ∧
      f.length = 7 + byteAt f 4 ∧ (byteAt f 0 = 1 → byteAt f 4 % 5 = 0) := by
  simp only [wellShaped, Bool.and_eq_true, Bool.or_eq_true, decide_eq_true_eq, and_assoc, ne_eq, ← imp_iff_not_or]
  rfl

/-- A frame of a size that no frame has is malformed (R163, step 1). -/
theorem judge_of_size {f : Bytes} (h : f.length < 7 ∨ 247 < f.length) : judge f = .malformed := if_pos h

/-- The check comes next, and the form last (R163, steps 2 and 3). -/
theorem judge_of_sized {f : Bytes} (h7 : 7 ≤ f.length) (h247 : f.length ≤ 247) :
    judge f = if receivedSum f ≠ 0xFFFF#16 then .checkFailure else if wellShaped f then .good else .malformed :=
  if_neg (by simp only [Config.receiveBytes]; omega)

/-- A frame in its size, with a good sum and a good form, is good. -/
theorem judge_good {f : Bytes} (h7 : 7 ≤ f.length) (h247 : f.length ≤ 247) (hsum : receivedSum f = 0xFFFF#16)
    (hform : wellShaped f = true) : judge f = .good := by
  rw [judge_of_sized h7 h247, if_neg (not_not.mpr hsum), if_pos hform]

section
variable (kind node channel sequence : Nat) (payload : Bytes)

/-- The bytes of a built frame. -/
theorem buildFrame_eq : ∃ hi lo, buildFrame kind node channel sequence payload =
    BitVec.ofNat 8 kind :: BitVec.ofNat 8 node :: BitVec.ofNat 8 channel :: BitVec.ofNat 8 sequence ::
      BitVec.ofNat 8 payload.length :: (payload ++ [hi, lo]) :=
  ⟨_, _, by simp [buildFrame, sealFrame, byte1, byte2]; exact ⟨rfl, rfl⟩⟩

/-- A built frame is its payload and seven bytes more. -/
theorem length_buildFrame : (buildFrame kind node channel sequence payload).length = 7 + payload.length := by
  obtain ⟨hi, lo, hf⟩ := buildFrame_eq kind node channel sequence payload
  rw [hf]
  simp
  omega

/-- The header of a built frame reads back modulo 256, byte by byte. -/
theorem header_buildFrame :
    let f := buildFrame kind node channel sequence payload
    byteAt f 0 = kind % 256 ∧ byteAt f 1 = node % 256 ∧ byteAt f 2 = channel % 256 ∧ byteAt f 3 = sequence % 256 ∧
      byteAt f 4 = payload.length % 256 := by
  obtain ⟨hi, lo, hf⟩ := buildFrame_eq kind node channel sequence payload
  simp [hf, byteAt]

/-- The payload of a built frame reads back. -/
theorem framePayload_buildFrame (h : payload.length ≤ 240) :
    framePayload (buildFrame kind node channel sequence payload) = payload := by
  obtain ⟨hi, lo, hf⟩ := buildFrame_eq kind node channel sequence payload
  obtain ⟨-, -, -, -, hl⟩ := header_buildFrame kind node channel sequence payload
  rw [framePayload, frameLength, hl, Nat.mod_eq_of_lt (by omega), hf]
  simp

end

/-- Settles O9: a built frame passes the three tests, and any bytes are judged by them in order. -/
theorem builtFrameIsJudgedGood : Obligations.BuiltFrameIsJudgedGood := by
  unfold Obligations.BuiltFrameIsJudgedGood
  refine ⟨fun kind node channel sequence payload h1 h5 hn hc hs hp hr => ?_, fun f => ?_⟩
  · intro f
    have hlen : f.length = 7 + payload.length := length_buildFrame ..
    obtain ⟨hkind, hnode, hchannel, hsequence, hlength⟩ := header_buildFrame kind node channel sequence payload
    rw [Nat.mod_eq_of_lt (by omega)] at hkind hnode hchannel hsequence hlength
    refine ⟨judge_good (by omega) (by omega) (receivedSum_sealFrame _) ?_, hlen, hkind, hnode, hchannel, hsequence,
      framePayload_buildFrame _ _ _ _ _ hp⟩
    rw [wellShaped_iff, hkind, hnode, hchannel, hlength]
    exact ⟨h1, h5, hn, hc, hp, hlen, hr⟩
  · intro carried shaped
    refine ⟨judge_of_size, fun h7 h247 => ⟨fun hsum => ?_, fun hsum hform => ?_, fun hsum hform => ?_⟩⟩
    · rw [judge_of_sized h7 h247, if_pos hsum]
    · rw [judge_of_sized h7 h247, if_neg (not_not.mpr hsum), if_neg (mt (wellShaped_iff f).mp hform)]
    · exact judge_good h7 h247 hsum ((wellShaped_iff f).mpr hform)

/-! ## The arrival of a notice -/

/-- An entry of a subject and family. -/
theorem Notice.isFor_iff (e : Notice) (subject : NoticeSubject) (family : NoticeFamily) :
    e.isFor subject family = true ↔ e.subject = subject ∧ e.kind.family = family := by
  simp [Notice.isFor]

/-- A request merges into the first entry of its subject and family, in its place (R101). -/
theorem coalesce_append {n e : Notice} {before after : List Notice}
    (hb : ∀ x ∈ before, x.isFor n.subject n.kind.family = false) (he : e.isFor n.subject n.kind.family = true) :
    coalesce n (before ++ e :: after) = some (before ++ mergeNotice e n :: after) := by
  induction before with
  | nil => simp [coalesce, he]
  | cons b before ih =>
    have hhead := hb b (List.mem_cons_self ..)
    have htail := ih fun x hx => hb x (List.mem_cons_of_mem _ hx)
    simp [coalesce, hhead, htail]

/-- A request with no entry of its subject and family merges into none (R101). -/
theorem coalesce_eq_none {n : Notice} {es : List Notice} (h : ∀ x ∈ es, x.isFor n.subject n.kind.family = false) :
    coalesce n es = none := by
  induction es with
  | nil => rfl
  | cons e es ih =>
    have hhead := h e (List.mem_cons_self ..)
    have htail := ih fun x hx => h x (List.mem_cons_of_mem _ hx)
    simp [coalesce, hhead, htail]

/-- What lies at or below the lowest priority. -/
theorem le_lowestPriority_iff (p : Nat) (es : List Notice) :
    p ≤ lowestPriority es ↔ p ≤ 31 ∧ ∀ x ∈ es, p ≤ x.priority := by
  have hfold : ∀ (ps : List Nat) (a : Nat), p ≤ ps.foldl min a ↔ p ≤ a ∧ ∀ x ∈ ps, p ≤ x := by
    intro ps
    induction ps with
    | nil => simp
    | cons q ps ih => simp [ih, and_assoc]
  simp [lowestPriority, hfold, Config.priorityTop]

/-- The lowest priority is that of an entry that none lies below. -/
theorem lowestPriority_eq {e : Notice} {es : List Notice} (he : e ∈ es) (htop : e.priority ≤ 31)
    (hleast : ∀ x ∈ es, e.priority ≤ x.priority) : lowestPriority es = e.priority :=
  Nat.le_antisymm (((le_lowestPriority_iff _ es).mp le_rfl).2 e he) ((le_lowestPriority_iff _ es).mpr ⟨htop, hleast⟩)

/-- The youngest entry of a priority is the last in the queue that carries it. -/
theorem dropYoungest_append {e : Notice} {before after : List Notice} (h : ∀ x ∈ after, x.priority ≠ e.priority) :
    dropYoungest e.priority (before ++ e :: after) = before ++ after := by
  have hafter : ∀ x ∈ after.reverse, ¬ decide (x.priority = e.priority) = true := by simpa using h
  simp [dropYoungest, List.eraseP_append_right _ hafter]

/-- At a full queue a request evicts the youngest of the lowest, or is dropped (R104). -/
theorem admitNotice_full {n : Notice} {q : NoticeQueue} (h : 256 ≤ q.entries.length) : admitNotice n q =
    if lowestPriority q.entries < n.priority then
      { q with entries := dropYoungest (lowestPriority q.entries) q.entries ++ [n], evicted := countUp q.evicted 1 }
    else { q with dropped := countUp q.dropped 1 } := if_neg (Nat.not_lt.mpr h)

/-- A request that merges with no entry is admitted, evicts or is dropped (R104). -/
theorem arriveAt_of_none {n : Notice} {q : NoticeQueue}
    (h : ∀ x ∈ q.entries, x.isFor n.subject n.kind.family = false) : arriveAt n q = admitNotice n q := by
  rw [arriveAt, coalesce_eq_none h]

/-- A request that merges takes the place of the entry it merges into (R101). -/
theorem arriveAt_of_append {n e : Notice} {q : NoticeQueue} {before after : List Notice}
    (hq : q.entries = before ++ e :: after) (hb : ∀ x ∈ before, x.isFor n.subject n.kind.family = false)
    (he : e.isFor n.subject n.kind.family = true) :
    arriveAt n q = { q with entries := before ++ mergeNotice e n :: after } := by
  rw [arriveAt, hq, coalesce_append hb he]

/-! ## Filters -/

/-- The class mask that covers a kind is off (R96). -/
theorem maskOn_eq_false_iff (c : ClassEntry) (kind : NoticeKind) : maskOn c kind = false ↔
    (kind = .out ∨ kind = .silent ∨ kind = .unmasked) ∧ c.riseMask = false ∨
      kind = .restored ∧ c.fallMask = false ∨ kind = .changed ∧ c.changeMask = false ∨
      (kind = .flap ∨ kind = .flapEnd) ∧ c.flapMask = false := by
  cases kind <;> simp [maskOn]

/-- The kinds held back while flapping (R97). -/
theorem heldByFlapping_iff (kind : NoticeKind) : heldByFlapping kind = true ↔
    kind = .out ∨ kind = .restored ∨ kind = .changed ∨ kind = .unmasked := by
  cases kind <;> simp [heldByFlapping]

/-- A request that the filters stop is masked or held by flapping. -/
theorem State.passesFilters_eq_false_iff (s : State) (kind : NoticeKind) (a : Nat) : s.passesFilters kind a = false ↔
    maskOn (s.classOf a) kind = false ∨ (s.record a).flapping = true ∧ heldByFlapping kind = true := by
  simp only [State.passesFilters, Bool.and_eq_false_iff, Bool.not_eq_false', Bool.and_eq_true]

/-- A request that the filters stop changes nothing. -/
theorem State.requestAsset_of_stopped {s : State} {kind : NoticeKind} {a : Nat} (h : s.passesFilters kind a = false)
    (c : Condition) (v : Severity) (r : Option Nat) (n : Nat) : s.requestAsset kind a c v r n = s := by
  simp [State.requestAsset, h]

/-- A request that the filters pass is built and arrives. -/
theorem State.requestAsset_of_passed {s : State} {kind : NoticeKind} {a : Nat} (h : s.passesFilters kind a = true)
    (c : Condition) (v : Severity) (r : Option Nat) (n : Nat) :
    s.requestAsset kind a c v r n = s.arrive (s.assetNotice kind a c v r n) := by
  simp [State.requestAsset, h]

/-! ## Zones -/

/-- A template fits an address in the words of R133. -/
theorem templateMatches_iff (t : ZoneTemplate) (a : FieldAddress) :
    templateMatches t a = true ↔ t.valid = true ∧ a &&& t.mask = t.base &&& t.mask := by
  simp [templateMatches]

/-- The lookup takes the lowest-numbered template that fits, if any does (R134). -/
theorem templateLookup_eq (ts : Table ZoneTemplate) (a : FieldAddress) : templateLookup ts a =
    ((List.range 16).find? fun k => templateMatches (tableGet invalidTemplate ts k) a).elim (0, 0)
      fun k => ((tableGet invalidTemplate ts k).zone, (tableGet invalidTemplate ts k).boost) := by
  rw [templateLookup, List.find?_map, Option.elim_map]
  rfl

/-- While LOADING or VALIDATING every address lies in zone 0 with boost 0 (R134). -/
theorem State.zoneLookup_closed {s : State} (h : s.correlator.state = .loading ∨ s.correlator.state = .validating)
    (a : FieldAddress) : s.zoneLookup a = (0, 0) := by
  rcases h with h | h <;> simp [State.zoneLookup, h]

/-- In every other state the templates are looked up (R134). -/
theorem State.zoneLookup_open {s : State} (h : ¬ (s.correlator.state = .loading ∨ s.correlator.state = .validating))
    (a : FieldAddress) : s.zoneLookup a = templateLookup s.tables.templates a := by
  cases hs : s.correlator.state with
  | loading => exact absurd (.inl hs) h
  | validating => exact absurd (.inr hs) h
  | init | clearing | ready => simp [State.zoneLookup, hs]

/-- Settles O51: the arrival by the entries it finds, the filters, and the zone lookup. -/
theorem arrivalMergesAdmitsOrDrops : Obligations.ArrivalMergesAdmitsOrDrops := by
  unfold Obligations.ArrivalMergesAdmitsOrDrops
  refine ⟨fun n q hn => ?_, fun s kind a condition severity cause count => ?_, fun s address => ?_⟩
  · intro same
    have hsame : ∀ x : Notice, ¬ same x → x.isFor n.subject n.kind.family = false := fun x hx =>
      Bool.eq_false_iff.mpr (mt (x.isFor_iff ..).mp hx)
    refine ⟨fun before e after hq hb he => ?_, fun hnone => ?_⟩
    · exact arriveAt_of_append hq (fun x hx => hsame x (hb x hx)) ((e.isFor_iff ..).mpr he)
    rw [arriveAt_of_none fun x hx => hsame x (hnone x hx)]
    refine ⟨fun hroom => if_pos hroom, fun hfull hlow => ?_, fun before e after hq hfull he hleast hlast => ?_⟩
    · have hlowest : n.priority ≤ lowestPriority q.entries := (le_lowestPriority_iff ..).mpr ⟨hn, hlow⟩
      rw [admitNotice_full hfull, if_neg (Nat.not_lt.mpr hlowest)]
      rfl
    · have hlowest : lowestPriority q.entries = e.priority := lowestPriority_eq (by simp [hq]) (by omega) hleast
      rw [admitNotice_full hfull, hlowest, if_pos he, hq, dropYoungest_append hlast]
      rfl
  · intro c r masked held place n arrived
    have hstopped : s.passesFilters kind a = false ↔ masked ∨ held := by
      rw [s.passesFilters_eq_false_iff, maskOn_eq_false_iff, heldByFlapping_iff]
    have hbuilt : s.assetNotice kind a condition severity cause count = n := by
      simp only [State.assetNotice, State.priorityOf_eq]
      rfl
    refine ⟨fun h => State.requestAsset_of_stopped (hstopped.mpr h) .., fun hm hh => ?_⟩
    have hpassed : s.passesFilters kind a = true :=
      Bool.not_eq_false _ ▸ mt hstopped.mp (not_or.mpr ⟨hm, hh⟩)
    rw [State.requestAsset_of_passed hpassed, hbuilt]
    exact ⟨State.arrive_busy n, fun hidle => State.offerDispatch_idle (by exact hidle)⟩
  · intro closed template fits
    have hfits : ∀ k, templateMatches (template k) address = true ↔ fits k := fun k => templateMatches_iff ..
    refine ⟨fun hc => State.zoneLookup_closed hc address, fun hc hnone => ?_, fun k hc hk hfit hfirst => ?_⟩
    · have hfind : ((List.range 16).find? fun k => templateMatches (template k) address) = none := by
        simpa [hfits] using hnone
      rw [State.zoneLookup_open hc, templateLookup_eq, hfind]
      rfl
    · have hfind : ((List.range 16).find? fun k => templateMatches (template k) address) = some k := by
        rw [List.find?_range_eq_some]
        exact ⟨(hfits k).mpr hfit, List.mem_range.mpr hk, fun i hi => by
          rw [Bool.eq_false_iff.mpr (mt (hfits i).mp (hfirst i hi)), Bool.not_false]⟩
      rw [State.zoneLookup_open hc, templateLookup_eq, hfind]
      rfl

/-! ## The queue's entries stay apart

The invariant speaks of the entries alone. Each operation that touches them merges, adds, evicts or removes entries;
every other one leaves them, which its frame says. -/

/-- What an entry is told apart by: its subject and its family (R95). -/
def Notice.key (n : Notice) : NoticeSubject × NoticeFamily := (n.subject, n.kind.family)

/-- At most 256 entries, no two of one key, every priority in 0..31. -/
structure QueueApart (es : List Notice) : Prop where
  places : es.length ≤ 256
  apart : (es.map Notice.key).Nodup
  priorities : ∀ n ∈ es, n.priority ≤ 31

/-- The invariant of the state is that of its entries. -/
theorem State.noticesApart_iff (s : State) : s.NoticesApart ↔ QueueApart s.notices.entries := by
  have hkey : s.notices.entries.Pairwise (fun m n => ¬ (m.subject = n.subject ∧ m.kind.family = n.kind.family)) ↔
      (s.notices.entries.map Notice.key).Nodup := by
    simp [List.Nodup, List.pairwise_map, Notice.key]
  exact ⟨fun ⟨hl, ha, hp⟩ => ⟨hl, hkey.mp ha, hp⟩, fun ⟨hl, ha, hp⟩ => ⟨hl, hkey.mpr ha, hp⟩⟩

/-- Entries that leave the queue leave the others apart. -/
theorem QueueApart.sublist {es es' : List Notice} (h : QueueApart es) (hs : es'.Sublist es) : QueueApart es' where
  places := hs.length_le.trans h.places
  apart := h.apart.sublist (hs.map _)
  priorities n hn := h.priorities n (hs.subset hn)

/-- An entry of a new key joins where there is a place. -/
theorem QueueApart.concat {es : List Notice} {n : Notice} (h : QueueApart es) (hroom : es.length < 256)
    (hnew : ∀ x ∈ es, x.key ≠ n.key) (hn : n.priority ≤ 31) : QueueApart (es ++ [n]) where
  places := by simpa using hroom
  apart := by
    rw [List.map_append, List.nodup_append]
    refine ⟨h.apart, by simp, ?_⟩
    simpa using hnew
  priorities x hx := by
    rcases List.mem_append.mp hx with hx | hx
    · exact h.priorities x hx
    · simpa [List.mem_singleton.mp hx] using hn

/-- An entry may give way to one of its own key. -/
theorem QueueApart.replace {before after : List Notice} {e m : Notice} (h : QueueApart (before ++ e :: after))
    (hkey : m.key = e.key) (hm : m.priority ≤ 31) : QueueApart (before ++ m :: after) where
  places := by simpa using h.places
  apart := by simpa [hkey] using h.apart
  priorities x hx := by
    rcases List.mem_append.mp hx with hx | hx
    · exact h.priorities x (by simp [hx])
    · rcases List.mem_cons.mp hx with rfl | hx
      · exact hm
      · exact h.priorities x (by simp [hx])

/-- A subject and family are a key. -/
theorem Notice.isFor_key (e n : Notice) : e.isFor n.subject n.kind.family = true ↔ e.key = n.key := by
  simp [Notice.isFor_iff, Notice.key]

/-- A merged entry has the key of the one it was merged into. -/
theorem mergeNotice_key {e n : Notice} (h : e.key = n.key) : (mergeNotice e n).key = e.key := by
  obtain ⟨hsubject, hfamily⟩ := mergeNotice_family e n
  rw [h, Notice.key, Notice.key, hsubject, hfamily]

/-- The entries without the youngest of a priority are entries of the queue. -/
theorem dropYoungest_sublist (p : Nat) (es : List Notice) : (dropYoungest p es).Sublist es := by
  have hsub : (es.reverse.eraseP fun e => decide (e.priority = p)).Sublist es.reverse := List.eraseP_sublist
  simpa [dropYoungest] using hsub.reverse

/-- A priority below the greatest is the lowest of some entry. -/
theorem exists_lowestPriority {es : List Notice} (h : lowestPriority es < 31) :
    ∃ x ∈ es, x.priority = lowestPriority es := by
  by_contra hne
  push Not at hne
  have hall : ∀ x ∈ es, lowestPriority es ≤ x.priority := ((le_lowestPriority_iff _ es).mp le_rfl).2
  have habove : lowestPriority es + 1 ≤ lowestPriority es := (le_lowestPriority_iff _ es).mpr
    ⟨h, fun x hx => Nat.lt_of_le_of_ne (hall x hx) (hne x hx).symm⟩
  omega

/-- An eviction frees a place. -/
theorem length_dropYoungest_lowest {es : List Notice} (h : lowestPriority es < 31) :
    (dropYoungest (lowestPriority es) es).length + 1 = es.length := by
  obtain ⟨x, hx, hp⟩ := exists_lowestPriority h
  have hlen : (es.reverse.eraseP fun e => decide (e.priority = lowestPriority es)).length = es.reverse.length - 1 :=
    List.length_eraseP_of_mem (List.mem_reverse.mpr hx) (by simpa using hp)
  have hpos : 0 < es.length := List.length_pos_of_mem hx
  simp only [dropYoungest, List.length_reverse] at hlen ⊢
  omega

/-- An admission keeps the entries apart. -/
theorem QueueApart.admitted {q : NoticeQueue} {n : Notice} (h : QueueApart q.entries)
    (hnew : ∀ x ∈ q.entries, x.key ≠ n.key) (hn : n.priority ≤ 31) : QueueApart (admitNotice n q).entries := by
  by_cases hroom : q.entries.length < 256
  · rw [admitNotice, if_pos (by exact hroom)]
    exact h.concat hroom hnew hn
  · rw [admitNotice_full (Nat.not_lt.mp hroom)]
    split
    · next hlow =>
      have hsub := dropYoungest_sublist (lowestPriority q.entries) q.entries
      have hlen := length_dropYoungest_lowest (Nat.lt_of_lt_of_le hlow hn)
      have hplaces := h.places
      exact (h.sublist hsub).concat (by omega) (fun x hx => hnew x (hsub.subset hx)) hn
    · exact h

/-- An arrival keeps the entries apart. -/
theorem QueueApart.arrived {q : NoticeQueue} {n : Notice} (h : QueueApart q.entries) (hn : n.priority ≤ 31) :
    QueueApart (arriveAt n q).entries := by
  cases hfind : q.entries.find? fun x => x.isFor n.subject n.kind.family with
  | none =>
    have hnone : ∀ x ∈ q.entries, x.isFor n.subject n.kind.family = false := by simpa using hfind
    rw [arriveAt_of_none hnone]
    exact h.admitted (fun x hx hkey => Bool.eq_false_iff.mp (hnone x hx) ((x.isFor_key n).mpr hkey)) hn
  | some e =>
    obtain ⟨he, before, after, hq, hb⟩ := List.find?_eq_some_iff_append.mp hfind
    rw [arriveAt_of_append hq (fun x hx => by simpa using hb x hx) he]
    rw [hq] at h
    have hmax : (mergeNotice e n).priority ≤ 31 := max_le (h.priorities e (by simp)) hn
    exact h.replace (mergeNotice_key ((e.isFor_key n).mp he)) hmax

/-! ### Operations that request in the course of others -/

/-- A storm offer counts, and may then hand a STORM notice to the queue (R112). -/
theorem State.offerStorm_cases (s : State) : ∃ storm,
    s.offerStorm = { s with storm := storm } ∨
      ∃ n, n.priority = 31 ∧ s.offerStorm = { s with storm := storm }.arrive n := by
  simp only [State.offerStorm]
  split
  · exact ⟨_, .inr ⟨_, rfl, rfl⟩⟩
  · exact ⟨_, .inl rfl⟩

/-- The independent outcome requests its notice, then makes its two offers, then joins and asks for adoption (R16). -/
theorem State.standAlone_eq (s : State) (k : NoticeKind) (a : Nat) :
    let held := (s.modRecord a fun r => { r with latch := .held }).countIndependent
    let told := held.requestAsset k a (held.record a).condition (held.record a).severity none (held.record a).dependents
    s.standAlone k a = ((told.offerStorm.offerEscalation k a).join a).requestAdoptIfMasking a := rfl

/-! ### The D-port takes entries -/

section
variable {s : State} (h : QueueApart s.notices.entries)
include h

theorem State.sendNotice_apart (n : Notice) : QueueApart (s.sendNotice n).notices.entries :=
  h.sublist (List.erase_sublist ..)

theorem State.chooseBelowReply_apart : QueueApart s.chooseBelowReply.notices.entries := by
  simp only [State.chooseBelowReply]
  split
  · split
    · exact State.sendNotice_apart h _
    · split
      · exact h
      · exact State.sendNotice_apart h _
  · exact State.sendNotice_apart h _
  · exact h
  · exact h

theorem State.choose_apart : QueueApart s.choose.notices.entries := by
  simp only [State.choose]
  split
  · simpa using h
  · exact State.chooseBelowReply_apart h

theorem State.offerDispatch_apart : QueueApart s.offerDispatch.notices.entries := by
  simp only [State.offerDispatch]
  split
  · exact State.choose_apart h
  · exact h

theorem State.placeReply_apart (p : Bytes) : QueueApart (s.placeReply p).notices.entries :=
  State.offerDispatch_apart (by exact h)

theorem State.forwardUp_apart (f : Bytes) : QueueApart (s.forwardUp f).notices.entries := by
  simp only [State.forwardUp]
  split
  · exact h
  · exact State.offerDispatch_apart (by exact h)

/-! ### Requests -/

theorem State.arrive_apart {n : Notice} (hn : n.priority ≤ 31) : QueueApart (s.arrive n).notices.entries :=
  State.offerDispatch_apart (by exact h.arrived hn)

theorem State.requestAsset_apart (k : NoticeKind) (a : Nat) (c : Condition) (v : Severity) (r : Option Nat) (n : Nat) :
    QueueApart (s.requestAsset k a c v r n).notices.entries := by
  rcases s.requestAsset_cases k a c v r n with he | ⟨-, he⟩ <;> rw [he]
  · exact h
  · exact State.arrive_apart h (Nat.min_le_left _ _)

theorem State.requestFromRecord_apart (k : NoticeKind) (a n : Nat) :
    QueueApart (s.requestFromRecord k a n).notices.entries := State.requestAsset_apart h ..

theorem State.offerStorm_apart : QueueApart s.offerStorm.notices.entries := by
  obtain ⟨storm, he | ⟨n, hn, he⟩⟩ := s.offerStorm_cases <;> rw [he]
  · exact h
  · exact State.arrive_apart (by exact h) hn.le

theorem State.raise_apart (c : EscalationContext) : QueueApart (s.raise c).notices.entries :=
  State.arrive_apart (by exact h) le_rfl

theorem State.offerEscalation_apart (k : NoticeKind) (a : Nat) :
    QueueApart (s.offerEscalation k a).notices.entries := by
  by_cases he : s.escalation = .armed
  · rw [State.offerEscalation_armed he]
    split
    · split
      · exact State.raise_apart h _
      · exact h
    · exact h
  · rw [State.offerEscalation_of_ne he]
    exact h

theorem State.stormEnded_apart : QueueApart s.stormEnded.notices.entries := by
  simp only [State.stormEnded]
  split
  · exact State.raise_apart h _
  all_goals exact h

theorem State.withdraw_apart (a : Nat) : QueueApart (s.withdraw a).notices.entries :=
  h.sublist List.filter_sublist

/-! ### The Sweep Engine -/

theorem State.endAdopt_apart (r : Nat) : QueueApart (s.endAdopt r).notices.entries := by
  have hremoved : QueueApart (s.removeJob (.adopt r)).notices.entries := by simpa using h
  simp only [State.endAdopt]
  split
  · split
    · exact State.requestFromRecord_apart hremoved ..
    · exact hremoved
  · exact h

theorem State.queueRelease_apart (r : Nat) : QueueApart (s.queueRelease r).notices.entries := by
  simp only [State.queueRelease]
  split
  · simpa using State.endAdopt_apart h r
  · split <;> simpa using h

theorem State.adopt_apart (r e : Nat) : QueueApart (s.adopt r e).notices.entries := by
  have hattributed : QueueApart
      ((s.attribute e r).modRecord e fun r => { r with latch := .clear }).notices.entries := by simpa using h
  simpa [State.adopt] using State.withdraw_apart hattributed e

theorem State.unmask_apart (e : Nat) : QueueApart (s.unmask e).notices.entries :=
  State.requestFromRecord_apart (by simpa using h) ..

theorem State.visit_apart (w : Walk) (e : Nat) : QueueApart (s.visit w e).notices.entries := by
  have hmoved : QueueApart (s.moveWalk (s.successor e)).notices.entries := by simpa using h
  cases w with
  | adopt root =>
    simp only [State.visit, State.adoptVisit]
    split
    · exact State.adopt_apart hmoved ..
    · exact hmoved
  | release root =>
    simp only [State.visit, State.releaseVisit]
    split
    · split
      · simpa using h
      · exact State.unmask_apart hmoved e
    · exact hmoved
  | ack zone => simpa [State.visit] using h

theorem State.sweepOnce_apart : QueueApart s.sweepOnce.notices.entries := by
  simp only [State.sweepOnce]
  split
  · exact h
  · next j _ _ =>
    split
    · simpa using h
    · split
      · cases hw : j.walk with
        | adopt root => exact State.endAdopt_apart h root
        | release | ack => simpa [State.endWalk] using h
      · exact State.visit_apart h ..

/-! ### The Correlator -/

theorem State.offered_apart (k : NoticeKind) (a : Nat) (c : Condition) (v : Severity) (r : Option Nat) (n : Nat) :
    QueueApart ((s.requestAsset k a c v r n).offerStorm.offerEscalation k a).notices.entries :=
  State.offerEscalation_apart (State.offerStorm_apart (State.requestAsset_apart h ..)) ..

theorem State.standAlone_apart (k : NoticeKind) (a : Nat) : QueueApart (s.standAlone k a).notices.entries := by
  have hheld : QueueApart (s.modRecord a fun r => { r with latch := .held }).countIndependent.notices.entries := h
  simp only [State.standAlone_eq, State.requestAdoptIfMasking_frame, State.join_frame]
  exact State.offered_apart hheld ..

theorem State.qualify_apart (a : Nat) (c : Condition) (v : Severity) (k : NoticeKind) :
    QueueApart (s.qualify a c v k).notices.entries := by
  have hentered : QueueApart (s.enterFault a c v).notices.entries := by simpa using h
  simp only [State.qualify]
  split
  · simpa using h
  · exact State.standAlone_apart hentered k a

theorem State.settleRestored_apart (a : Nat) (v : Severity) (n : Nat) (b : Bool) :
    QueueApart (s.settleRestored a v n b).notices.entries := by
  simp only [State.settleRestored]
  split
  · exact State.requestAsset_apart (by exact h) ..
  · simpa using h

theorem State.restore_apart (a : Nat) : QueueApart (s.restore a).notices.entries := by
  have hnormal : QueueApart
      (s.modRecord a fun r => { r with condition := .normal, run := 0, severity := .none }).notices.entries := h
  simp only [State.restore]
  refine State.endAdopt_apart ?_ a
  simp only [State.leaveUnlessListed_frame]
  refine State.settleRestored_apart ?_ ..
  split
  · exact State.queueRelease_apart hnormal a
  · exact hnormal

theorem State.attemptRestore_apart (a : Nat) : QueueApart (s.attemptRestore a).notices.entries := by
  simp only [State.attemptRestore]
  split
  · exact h
  · exact State.restore_apart h a

theorem State.scoreFlap_apart (a : Nat) (st : Status) : QueueApart (s.scoreFlap a st).notices.entries := by
  have hscored : QueueApart (s.modRecord a (scoreRecord (s.classOf a) s.now st)).notices.entries := h
  simp only [State.scoreFlap]
  split
  · exact hscored
  · exact State.requestFromRecord_apart hscored ..

theorem State.takeSeverity_apart (a : Nat) (v : Severity) : QueueApart (s.takeSeverity a v).notices.entries := by
  have htaken : QueueApart
      (s.modRecord a fun r => { r with condition := .fault, run := 0, severity := v }).notices.entries := h
  simp only [State.takeSeverity]
  split
  · exact State.requestAsset_apart htaken ..
  · exact htaken

theorem State.suspect_apart (a n : Nat) (v : Severity) : QueueApart (s.suspect a n v).notices.entries := by
  simp only [State.suspect]
  split
  · exact State.qualify_apart h ..
  · exact h

theorem State.recover_apart (a n : Nat) : QueueApart (s.recover a n).notices.entries := by
  have hrecovering : QueueApart
      (s.modRecord a fun r =>
        { r with condition := .recovering, run := min n (s.classOf a).restoreCount }).notices.entries := h
  simp only [State.recover]
  split
  · exact State.attemptRestore_apart hrecovering a
  · exact hrecovering

theorem State.runMachine_apart (a : Nat) (st : Status) : QueueApart (s.runMachine a st).notices.entries := by
  have hnotOk : ∀ v, QueueApart (s.machineNotOk a v).notices.entries := by
    intro v
    simp only [State.machineNotOk]
    split
    · exact State.suspect_apart h ..
    · exact State.suspect_apart h ..
    · exact State.suspect_apart h ..
    · exact State.takeSeverity_apart h ..
    · exact State.takeSeverity_apart h ..
    · exact State.takeSeverity_apart h ..
    · exact h
  cases st with
  | ok =>
    simp only [State.runMachine, State.machineOk]
    split
    · exact h
    · exact h
    · exact h
    · exact State.recover_apart h ..
    · exact State.recover_apart h ..
    · exact State.recover_apart h ..
    · exact h
  | degraded | failed => exact hnotOk _

theorem State.judgeItem_apart (a : Nat) (st : Status) : QueueApart (s.judgeItem a st).notices.entries := by
  simp only [State.judgeItem]
  split
  · exact h
  · exact State.runMachine_apart (State.scoreFlap_apart h a st) a st

theorem State.processItem_apart (a : Nat) (i : Item) (st : Status) (n : Nat) :
    QueueApart (s.processItem a i st n).notices.entries := by
  have hrefreshed : QueueApart (s.refresh a i n).notices.entries := h
  simp only [State.processItem]
  split
  · split
    · exact State.judgeItem_apart hrefreshed a st
    · exact hrefreshed
  · exact State.judgeItem_apart (by exact h) a st

theorem State.silenceStanding_apart (a : Nat) : QueueApart (s.silenceStanding a).notices.entries := by
  have hsilent : QueueApart
      (s.modRecord a fun r => { r with condition := .silent, run := 0, severity := .major }).notices.entries := h
  simp only [State.silenceStanding]
  split
  · exact State.requestAsset_apart hsilent ..
  · exact hsilent

theorem State.goSilent_apart (a : Nat) : QueueApart (s.goSilent a).notices.entries := by
  simp only [State.goSilent]
  split
  · exact State.silenceStanding_apart h a
  · exact State.silenceStanding_apart h a
  all_goals exact State.qualify_apart h ..

omit h in
/-- One visit moves the position first (R87). -/
theorem State.scanOnce_eq (s : State) : ∃ p, s.scanOnce =
    if { s with scan := p }.silentNow s.scan then { s with scan := p }.goSilent s.scan else { s with scan := p } :=
  ⟨_, rfl⟩

theorem State.scanOnce_apart : QueueApart s.scanOnce.notices.entries := by
  obtain ⟨p, hscan⟩ := s.scanOnce_eq
  rw [hscan]
  split
  · exact State.goSilent_apart (by exact h) _
  · exact h

/-! ### The link and its reports -/

theorem State.enterPass_apart : QueueApart s.enterPass.notices.entries :=
  State.arrive_apart (by exact h) le_rfl

theorem State.leavePass_apart (l : LinkState) : QueueApart (s.leavePass l).notices.entries :=
  State.arrive_apart (by exact h) le_rfl

theorem State.passIfRun_apart : QueueApart s.passIfRun.notices.entries := by
  simp only [State.passIfRun]
  split
  · exact State.enterPass_apart h
  · exact h

theorem State.qualifyLink_apart (j : Judgement) : QueueApart (s.qualifyLink j).notices.entries := by
  simp only [State.qualifyLink]
  split
  · exact State.passIfRun_apart (by exact h)
  · exact h
  · exact h
  · exact h
  · exact h
  · split
    · exact State.leavePass_apart h _
    · exact h
  · exact h
  · exact h
  · exact h

theorem State.takeItem_apart (n c : Nat) (i : Item) : QueueApart (s.takeItem n c i).notices.entries := by
  simp only [State.takeItem]
  split
  · exact h
  · split
    · exact h
    · exact State.processItem_apart h ..

omit h in
theorem State.takeItems_apart (n c : Nat) (is : List Item) :
    ∀ s : State, QueueApart s.notices.entries → QueueApart (s.takeItems n c is).notices.entries := by
  induction is with
  | nil => exact fun s h => h
  | cons i is ih => exact fun s h => ih _ (State.takeItem_apart h n c i)

theorem State.acceptReport_apart (n q : Nat) : QueueApart (s.acceptReport n q).notices.entries := by
  have haccepted : QueueApart (s.modSource n fun e => e.accept q s.now).notices.entries := h
  simp only [State.acceptReport]
  split
  · exact State.arrive_apart haccepted (by decide : 28 ≤ 31)
  · exact haccepted

theorem State.correlateReport_apart (f : Bytes) : QueueApart (s.correlateReport f).notices.entries := by
  simp only [State.correlateReport, State.takeReport]
  split
  · split
    · exact h
    · exact State.takeItems_apart _ _ _ _ (State.acceptReport_apart h ..)
  · exact h

theorem State.handField_apart (f : Bytes) : QueueApart (s.handField f).notices.entries := by
  simp only [State.handField, State.handReport]
  split
  · refine State.correlateReport_apart ?_ f
    split
    · exact h
    · exact State.forwardUp_apart h f
  · split
    · exact State.forwardUp_apart h f
    · exact h

theorem State.receiveField_apart (f : Bytes) : QueueApart (s.receiveField f).notices.entries := by
  have hqualified : QueueApart ((s.countField f (judge f)).qualifyLink (judge f)).notices.entries :=
    State.qualifyLink_apart (by simpa using h) _
  simp only [State.receiveField]
  split
  · exact State.handField_apart hqualified f
  · exact hqualified

omit h in
/-- A frame on the D-port leaves the Notice Queue. -/
theorem State.receiveDispatch_notices (f : Bytes) : (s.receiveDispatch f).notices = s.notices := by
  simp only [State.receiveDispatch, State.handDispatch, State.handCommand]
  (repeat' split) <;> simp

/-! ### The agent's commands -/

theorem State.finish_apart (v : ReplyStatus) (r : Bytes) : QueueApart (s.finish v r).notices.entries := by
  simp only [State.finish]
  split
  · exact State.placeReply_apart (by exact h) _
  · split
    · exact h
    · simpa using h
  all_goals exact h

theorem State.configure_apart (c : ConfigSet) : QueueApart (s.configure c).notices.entries := by
  refine State.offerDispatch_apart ?_
  simp only [State.followThreshold]
  split
  · exact h
  · exact State.passIfRun_apart (by exact h)

theorem State.endStorm_apart : QueueApart s.endStorm.notices.entries := by
  simp only [State.endStorm]
  split
  · exact h
  · exact State.stormEnded_apart (State.offerDispatch_apart (by exact h))

theorem State.serviceOut_apart (a : Nat) : QueueApart (s.serviceOut a).notices.entries := by
  have hleft : QueueApart ((s.leaveAttribution a).modRecord a fun r =>
      { r with condition := .outOfService, run := 0 }).notices.entries := by
    simp only [State.leaveAttribution]
    split <;> simpa using h
  simp only [State.serviceOut, State.takeOut]
  split
  · exact h
  · simp only [State.leaveUnlessListed_frame, State.cancelReleaseIfMasking_frame]
    exact State.endAdopt_apart hleft a

theorem State.serviceIn_apart (a : Nat) : QueueApart (s.serviceIn a).notices.entries := by
  simp only [State.serviceIn, State.leaveUnlessListed_frame, State.modRecord_frame]
  split
  · exact State.queueRelease_apart h a
  · exact h

end

/-! ## What a command leaves: registers and entries -/

/-- The registers that only named commands change: straps, configuration set, mode, time base and flash. -/
structure Registers where
  straps : Straps
  config : ConfigSet
  mode : Mode
  time : Nat
  flash : Memory

/-- The registers of a state. -/
def State.registers (s : State) : Registers := ⟨s.straps, s.agent.config, s.agent.mode, s.agent.time, s.flash⟩

/-- The state of an ending, before its reply. -/
def Ending.state : Ending → State
  | .reply s _ _ => s
  | .goesOn s => s

/-- `t` has the registers `r`, and its notices are apart if those of `s` were. -/
structure State.Sets (s : State) (r : Registers) (t : State) : Prop where
  registers : t.registers = r
  apart : QueueApart s.notices.entries → QueueApart t.notices.entries

/-- `t` has the registers of `s`, and its notices are apart if those of `s` were. -/
abbrev State.Keeps (s t : State) : Prop := s.Sets s.registers t

theorem State.Sets.refl (s : State) : s.Sets s.registers s := ⟨rfl, id⟩

theorem State.Sets.trans {s t u : State} {r : Registers} (h : s.Sets r t) (h' : t.Keeps u) : s.Sets r u :=
  ⟨h'.registers.trans h.registers, h'.apart ∘ h.apart⟩

/-- `trans` with its last step first, for a first step that the last one names. -/
theorem State.Sets.after {s t u : State} {r : Registers} (h' : t.Keeps u) (h : s.Sets r t) : s.Sets r u := h.trans h'

theorem State.finish_keeps (s : State) (v : ReplyStatus) (r : Bytes) : s.Keeps (s.finish v r) :=
  ⟨by simp [State.registers], fun h => State.finish_apart h v r⟩

/-- A reply changes no register and keeps the entries apart. -/
theorem Ending.settle_keeps (e : Ending) : e.state.Keeps e.settle := by
  cases e with
  | reply s v r => exact s.finish_keeps v r
  | goesOn s => exact .refl s

/-- A command that a test may refuse keeps when it keeps otherwise. -/
theorem State.Keeps.unlessRefused {s : State} {v : ReplyStatus} {x : Ending} {refused : Prop} [Decidable refused]
    (h : s.Keeps x.state) : s.Keeps (if refused then refuse s v else x).state := by
  split
  · exact .refl s
  · exact h

/-- A choice between two that set the same. -/
theorem State.Sets.ite {s t u : State} {r : Registers} {choice : Prop} [Decidable choice] (ht : s.Sets r t)
    (hu : s.Sets r u) : s.Sets r (if choice then t else u) := by
  split
  · exact ht
  · exact hu

/-- A run of writes that keep keeps. -/
theorem State.Keeps.foldl (f : State → Bytes → State) (hf : ∀ (s : State) e, s.Keeps (f s e)) (es : List Bytes)
    (s : State) : s.Keeps (es.foldl f s) := by
  induction es generalizing s with
  | nil => exact .refl s
  | cons e es ih => exact (hf s e).trans (ih _)

/-! ### Operations that keep -/

/-- A table write keeps when its writing does. -/
theorem tableWrite_keeps {s w : State} (h : s.Keeps w) (es : List Bytes) (test : Bytes → Option ReplyStatus) :
    s.Keeps (tableWrite s es test w).state := by
  simp only [tableWrite]
  split
  · exact .refl s
  · exact h

/-- A run adjustment keeps. -/
theorem State.adjustRuns_keeps (s u : State) : s.Keeps (s.adjustRuns u) :=
  ⟨by simp [State.registers], fun h => by simpa using h⟩

/-- The following of the sources' use keeps. -/
theorem State.followUse_keeps (s u : State) : s.Keeps (s.followUse u) := by
  obtain ⟨sources, hfollow⟩ : ∃ sources, s.followUse u = { s with sources := sources } := by
    by_cases hr : s.ready = true
    · exact ⟨_, if_pos hr⟩
    · exact ⟨s.sources, if_neg hr⟩
  rw [hfollow]
  exact ⟨rfl, id⟩

/-- A latch cleared keeps. -/
theorem State.clearLatch_keeps (s : State) (a : Nat) : s.Keeps (s.clearLatch a) :=
  ⟨by simp [State.registers], fun h => by simpa using h⟩

/-- A restart's first action empties the queue (R182). -/
theorem State.beginRestart_keeps (s : State) (full : Bool) : s.Keeps (s.beginRestart full) :=
  ⟨rfl, fun _ => ⟨Nat.zero_le _, List.nodup_nil, fun _ h => nomatch h⟩⟩

/-! ### The bodies of the commands -/

section
variable (p : Bytes) (s : State)

theorem badVectorBody_keeps : s.Keeps (badVectorBody p s).state := .unlessRefused (.refl s)

theorem statusBody_keeps : s.Keeps (statusBody p s).state := .unlessRefused (.refl s)

theorem readCountersPortBody_keeps : s.Keeps (readCountersPortBody p s).state :=
  .unlessRefused (.unlessRefused (.ite ⟨rfl, id⟩ (.refl s)))

theorem readCountersSourceBody_keeps : s.Keeps (readCountersSourceBody p s).state :=
  .unlessRefused (.unlessRefused (.ite ⟨rfl, id⟩ (.refl s)))

theorem loadEndBody_keeps : s.Keeps (loadEndBody p s).state := .unlessRefused (.unlessRefused ⟨rfl, id⟩)

theorem classWriteBody_keeps : s.Keeps (classWriteBody p s).state :=
  have hput : s.Keeps (s.putClass (arguments p)) := ⟨rfl, id⟩
  .unlessRefused (.unlessRefused (tableWrite_keeps (hput.trans (State.adjustRuns_keeps ..)) ..))

theorem templateWriteBody_keeps : s.Keeps (templateWriteBody p s).state :=
  have hput := State.Keeps.foldl State.putTemplate (fun _ _ => ⟨rfl, id⟩) (entriesOf 10 (arguments p)) s
  .unlessRefused (.unlessRefused (tableWrite_keeps hput ..))

theorem assetWriteBody_keeps : s.Keeps (assetWriteBody p s).state :=
  have hput := State.Keeps.foldl State.putAsset (fun _ _ => ⟨rfl, id⟩) (entriesOf 8 (arguments p)) s
  .unlessRefused (.unlessRefused (tableWrite_keeps (hput.trans (State.adjustRuns_keeps ..)) ..))

theorem trunkWriteBody_keeps : s.Keeps (trunkWriteBody p s).state :=
  have hput := State.Keeps.foldl State.putTrunk (fun _ _ => ⟨rfl, id⟩) (entriesOf 7 (arguments p)) s
  .unlessRefused (.unlessRefused (tableWrite_keeps (hput.trans (State.followUse_keeps ..)) ..))

theorem queryAssetBody_keeps : s.Keeps (queryAssetBody p s).state :=
  .unlessRefused (.unlessRefused (.unlessRefused (.ite (State.clearLatch_keeps ..) (.refl s))))

theorem queryListBody_keeps : s.Keeps (queryListBody p s).state := by
  refine .unlessRefused (.unlessRefused (.unlessRefused ?_))
  split
  · exact .refl s
  · split <;> exact .refl s

theorem ackFaultBody_keeps : s.Keeps (ackFaultBody p s).state :=
  .unlessRefused (.unlessRefused (.unlessRefused (.unlessRefused (State.clearLatch_keeps ..))))

theorem ackRestoredBody_keeps : s.Keeps (ackRestoredBody p s).state := by
  refine .unlessRefused (.unlessRefused ?_)
  split
  · exact .refl s
  · next zone _ =>
    have hqueued : s.Keeps (s.queueAck zone) := ⟨by simp [State.registers], fun h => by simpa using h⟩
    exact .unlessRefused hqueued

theorem escArmBody_keeps : s.Keeps (escArmBody p s).state := by
  refine .unlessRefused ?_
  split <;> exact ⟨rfl, id⟩

theorem escAckBody_keeps : s.Keeps (escAckBody p s).state := by
  refine .unlessRefused ?_
  split
  · exact .refl s
  · exact .refl s
  · exact .unlessRefused ⟨rfl, id⟩
  · exact .unlessRefused ⟨rfl, id⟩

theorem flashEraseBody_keeps : s.Keeps (flashEraseBody p s).state := .unlessRefused (.unlessRefused ⟨rfl, id⟩)

theorem flashWriteBody_keeps : s.Keeps (flashWriteBody p s).state :=
  .unlessRefused (.unlessRefused (.unlessRefused (.unlessRefused ⟨rfl, id⟩)))

theorem restartBody_keeps : s.Keeps (restartBody p s).state :=
  .unlessRefused (.unlessRefused (State.beginRestart_keeps ..))

theorem loadBeginBody_keeps : s.Keeps (loadBeginBody p s).state := .unlessRefused (State.beginRestart_keeps ..)

theorem setServiceBody_keeps : s.Keeps (setServiceBody p s).state := by
  have hout : s.Keeps (s.serviceOut (assetArgument p)) :=
    ⟨by
      simp only [State.serviceOut, State.takeOut, State.leaveAttribution]
      (repeat' split) <;> simp [State.registers],
      fun h => State.serviceOut_apart h _⟩
  have hin : s.Keeps (s.serviceIn (assetArgument p)) :=
    ⟨by simp only [State.serviceIn]; split <;> simp [State.registers], fun h => State.serviceIn_apart h _⟩
  refine .unlessRefused (.unlessRefused (.unlessRefused ?_))
  split
  · exact hout
  · exact .unlessRefused (.unlessRefused hin)

theorem stormBody_keeps : s.Keeps (stormBody p s).state := by
  have hon : s.Keeps (s.startStorm (byteAt (arguments p) 1)) :=
    ⟨by simp [State.startStorm, State.registers], fun h => State.offerDispatch_apart (by exact h)⟩
  have hoff : s.Keeps s.endStorm :=
    ⟨by simp only [State.endStorm]; split <;> simp [State.registers], State.endStorm_apart⟩
  refine .unlessRefused (.unlessRefused ?_)
  split
  · exact hon
  · exact hoff

/-! ### The bodies that set a register -/

theorem configBody_sets : ∃ c, s.Sets { s.registers with config := c } (configBody p s).state := by
  have hconfigured : ∀ c, s.Sets { s.registers with config := (s.configure c).agent.config } (s.configure c) :=
    fun c => ⟨by simp [State.registers], fun h => State.configure_apart h c⟩
  simp only [configBody]
  split
  · exact ⟨_, rfl, id⟩
  · split
    · exact ⟨_, rfl, id⟩
    · exact ⟨_, hconfigured _⟩

theorem timeSetBody_sets : ∃ n, s.Sets { s.registers with time := n } (timeSetBody p s).state := by
  simp only [timeSetBody]
  split
  · exact ⟨_, rfl, id⟩
  · exact ⟨_, rfl, id⟩

theorem setModeBody_sets : ∃ m, s.Sets { s.registers with mode := m } (setModeBody p s).state := by
  have hchanged : ∀ m, s.Sets { s.registers with mode := m } (s.changeMode m) := by
    intro m
    simp only [State.changeMode]
    split <;> exact ⟨rfl, id⟩
  simp only [setModeBody]
  split
  · exact ⟨_, rfl, id⟩
  · split
    · exact ⟨_, rfl, id⟩
    · exact ⟨_, hchanged _⟩

end

/-! ### Rows and the replay -/

/-- The body that a row runs. -/
def CommandRow.body : CommandRow → Bytes → State → Ending
  | .badVector => badVectorBody
  | .status => statusBody
  | .config => configBody
  | .timeSet => timeSetBody
  | .setMode => setModeBody
  | .restartClear | .restartFull => restartBody
  | .readCountersPort => readCountersPortBody
  | .readCountersSource => readCountersSourceBody
  | .loadBegin => loadBeginBody
  | .loadEnd => loadEndBody
  | .classWrite => classWriteBody
  | .templateWrite => templateWriteBody
  | .assetWrite => assetWriteBody
  | .trunkWrite => trunkWriteBody
  | .queryAsset => queryAssetBody
  | .queryList => queryListBody
  | .ackFault => ackFaultBody
  | .ackRestored => ackRestoredBody
  | .setServiceOut | .setServiceIn => setServiceBody
  | .stormOn | .stormOff => stormBody
  | .escArm => escArmBody
  | .escAck => escAckBody
  | .flashErase => flashEraseBody
  | .flashWrite => flashWriteBody

/-- A stored command runs the body of its row. -/
theorem runCommand_eq (p : Bytes) (s : State) : runCommand p s = (commandRow p).body p s := by
  cases hrow : commandRow p <;> simp only [runCommand, hrow, CommandRow.body]

/-- The rows of CONFIG, TIME SET and SET MODE are those that may set a register. -/
def CommandRow.setsRegister : CommandRow → Bool
  | .config | .timeSet | .setMode => true
  | _ => false

/-- Every other row keeps. -/
theorem CommandRow.body_keeps {row : CommandRow} (h : row.setsRegister = false) (p : Bytes) (s : State) :
    s.Keeps (row.body p s).state := by
  cases row with
  | config | timeSet | setMode => exact nomatch h
  | badVector => exact badVectorBody_keeps p s
  | status => exact statusBody_keeps p s
  | restartClear | restartFull => exact restartBody_keeps p s
  | readCountersPort => exact readCountersPortBody_keeps p s
  | readCountersSource => exact readCountersSourceBody_keeps p s
  | loadBegin => exact loadBeginBody_keeps p s
  | loadEnd => exact loadEndBody_keeps p s
  | classWrite => exact classWriteBody_keeps p s
  | templateWrite => exact templateWriteBody_keeps p s
  | assetWrite => exact assetWriteBody_keeps p s
  | trunkWrite => exact trunkWriteBody_keeps p s
  | queryAsset => exact queryAssetBody_keeps p s
  | queryList => exact queryListBody_keeps p s
  | ackFault => exact ackFaultBody_keeps p s
  | ackRestored => exact ackRestoredBody_keeps p s
  | setServiceOut | setServiceIn => exact setServiceBody_keeps p s
  | stormOn | stormOff => exact stormBody_keeps p s
  | escArm => exact escArmBody_keeps p s
  | escAck => exact escAckBody_keeps p s
  | flashErase => exact flashEraseBody_keeps p s
  | flashWrite => exact flashWriteBody_keeps p s

/-- `t` has the straps and the flash of `s`, and its notices are apart if those of `s` were. -/
def State.Reconfigures (s t : State) : Prop :=
  ∃ c m n, s.Sets { s.registers with config := c, mode := m, time := n } t

theorem State.Sets.reconfigures {s t : State} (h : s.Keeps t) : s.Reconfigures t := ⟨_, _, _, h⟩

/-- No row sets straps or flash. -/
theorem CommandRow.body_reconfigures (row : CommandRow) (p : Bytes) (s : State) :
    s.Reconfigures (row.body p s).state := by
  by_cases h : row.setsRegister = true
  · cases row with
    | config =>
      obtain ⟨c, hc⟩ := configBody_sets p s
      exact ⟨_, _, _, hc⟩
    | timeSet =>
      obtain ⟨n, hn⟩ := timeSetBody_sets p s
      exact ⟨_, _, _, hn⟩
    | setMode =>
      obtain ⟨m, hm⟩ := setModeBody_sets p s
      exact ⟨_, _, _, hm⟩
    | _ => exact nomatch h
  · exact (CommandRow.body_keeps (Bool.eq_false_iff.mpr h) p s).reconfigures

/-- A row whose body sets no register keeps. -/
theorem State.runRow_keeps {row : CommandRow} (h : row.setsRegister = false) (s : State) :
    s.Keeps (s.runRow row row.body) := by
  rcases s.runRow_cases row row.body with he | ⟨p, -, -, he⟩ <;> rw [he]
  · exact .refl s
  · exact (CommandRow.body_keeps h p s).trans (Ending.settle_keeps _)

/-- A stored command sets neither straps nor flash. -/
theorem State.replayCommand_reconfigures (s : State) (offset executed : Nat) (frame : Bytes) :
    s.Reconfigures (s.replayCommand offset executed frame) := by
  rw [State.replayCommand, runCommand_eq]
  obtain ⟨c, m, n, hset⟩ := (commandRow (framePayload frame)).body_reconfigures (framePayload frame)
    { s with agent.state := .replaying (offset + frame.length) executed (some (framePayload frame)) }
  have hsettled := hset.trans (Ending.settle_keeps _)
  exact ⟨c, m, n, hsettled.registers, hsettled.apart⟩

/-- A frame start of the replay sets neither straps nor flash. -/
theorem State.replayStep_reconfigures (s : State) : s.Reconfigures s.replayStep := by
  have hended : s.Keeps s.endReplay := ⟨by simp [State.registers], fun h => by simpa using h⟩
  have hfailed : ∀ k, s.Keeps (s.failReplay k) := fun k => ⟨by simp [State.registers], fun h => by simpa using h⟩
  have hmarker : ∀ k, s.Keeps (s.endMarker k) := fun k => .ite hended (hfailed _)
  simp only [State.replayStep]
  split
  · simp only [State.replayFrame]
    split
    · exact (hfailed _).reconfigures
    split
    · exact (hmarker _).reconfigures
    split
    · exact (hfailed _).reconfigures
    split
    · exact (hfailed _).reconfigures
    · exact s.replayCommand_reconfigures ..
  all_goals exact (State.Sets.refl s).reconfigures

/-! ### The steps that keep -/

section
variable (s : State)

theorem State.endInit_keeps : s.Keeps s.endInit :=
  ⟨by simp [State.endInit, State.registers], fun h => by simpa [State.endInit] using h⟩

theorem State.leavePass_keeps (l : LinkState) : s.Keeps (s.leavePass l) :=
  ⟨by simp [State.registers], fun h => State.leavePass_apart h l⟩

theorem State.enterPass_keeps : s.Keeps s.enterPass := ⟨by simp [State.registers], State.enterPass_apart⟩

theorem State.silenceSource_keeps (n : Nat) : s.Keeps (s.silenceSource n) :=
  ⟨by simp [State.registers], fun h => State.arrive_apart (by exact h) (by decide : 28 ≤ 31)⟩

theorem State.loseLine_keeps : s.Keeps s.loseLine := by
  simp only [State.loseLine]
  split
  · exact s.leavePass_keeps _
  · exact ⟨rfl, id⟩
  · exact .refl s

theorem State.regainLine_keeps : s.Keeps s.regainLine := by
  simp only [State.regainLine]
  split
  · split
    · exact ⟨rfl, id⟩
    · exact s.enterPass_keeps
  all_goals exact .refl s

theorem State.receiveField_keeps (f : Bytes) : s.Keeps (s.receiveField f) :=
  ⟨by
    simp only [State.receiveField, State.handField, State.handReport]
    (repeat' split) <;> simp [State.registers], fun h => State.receiveField_apart h f⟩

theorem State.receiveDispatch_keeps (f : Bytes) : s.Keeps (s.receiveDispatch f) :=
  ⟨by
    simp only [State.receiveDispatch, State.handDispatch, State.handCommand]
    (repeat' split) <;> simp [State.registers], fun h => by rwa [s.receiveDispatch_notices f]⟩

theorem State.finishDown_keeps : s.Keeps s.finishDown :=
  ⟨by simp [State.finishDown, State.registers], fun h => by simpa [State.finishDown] using h⟩

theorem State.choose_keeps : s.Keeps s.choose := ⟨by simp [State.registers], State.choose_apart⟩

theorem State.scanOnce_keeps : s.Keeps s.scanOnce := ⟨by simp [State.registers], State.scanOnce_apart⟩

theorem State.sweepOnce_keeps : s.Keeps s.sweepOnce := ⟨by simp [State.registers], State.sweepOnce_apart⟩

theorem State.endRestart_keeps (toReady : Bool) : s.Keeps (s.endRestart toReady) := by
  cases toReady <;> exact ⟨rfl, id⟩

theorem State.clearingDone_keeps : s.Keeps s.clearingDone := by
  simp only [State.clearingDone]
  split
  · exact (s.endRestart_keeps _).trans (State.finish_keeps ..)
  all_goals exact .refl s

theorem State.endValidation_keeps (declared : Nat) : s.Keeps (s.endValidation declared) := by
  have hserved : s.Keeps (s.enterService declared) := by
    obtain ⟨table, htable⟩ := State.startSources_eq (State.resume
      { s with tables.assetCount := declared, correlator.state := .ready, agent.long := none })
    rw [State.enterService, htable]
    exact ⟨rfl, id⟩
  have hback : s.Keeps s.backToLoading := ⟨rfl, id⟩
  simp only [State.endValidation]
  split
  · exact hserved.trans (State.finish_keeps ..)
  · exact hback.trans (State.finish_keeps ..)

theorem State.validationDone_keeps : s.Keeps s.validationDone := by
  simp only [State.validationDone]
  split
  · exact s.endValidation_keeps _
  all_goals exact .refl s

/-! ### The steps that set a register -/

theorem State.timeBaseAdvance_sets :
    ∃ n, s.Sets { s.registers with time := n } (if s.inReset then s else s.advance) := by
  simp only [State.advance]
  (repeat' split) <;> exact ⟨_, rfl, id⟩

theorem State.flashEraseBlock_sets :
    ∃ f, s.Sets { s.registers with flash := f } (if s.inReset then s else s.eraseStep) := by
  split
  · exact ⟨_, .refl s⟩
  simp only [State.eraseStep]
  split
  · next block _ =>
    simp only [State.eraseBlock]
    split
    · exact ⟨_, rfl, id⟩
    · exact ⟨_, (State.finish_keeps ..).after ⟨rfl, id⟩⟩
  all_goals exact ⟨_, .refl s⟩

theorem State.flashWriteEnd_sets :
    ∃ f, s.Sets { s.registers with flash := f } (if s.inReset then s else s.writeDone) := by
  split
  · exact ⟨_, .refl s⟩
  simp only [State.writeDone]
  split
  · exact ⟨_, (State.finish_keeps ..).after ⟨rfl, id⟩⟩
  all_goals exact ⟨_, .refl s⟩

theorem State.bootReplayFrame_reconfigures : s.Reconfigures (if s.inReset then s else s.replayStep) := by
  split
  · exact (State.Sets.refl s).reconfigures
  · exact s.replayStep_reconfigures

/-- A row sets what its body sets. -/
theorem State.runRow_sets {α : Type} {f : α → Registers} {row : CommandRow} {body : Bytes → State → Ending}
    (hnone : ∃ x, s.Sets (f x) s) (h : ∀ p, ∃ x, s.Sets (f x) (body p s).state) :
    ∃ x, s.Sets (f x) (s.runRow row body) := by
  rcases s.runRow_cases row body with he | ⟨p, -, -, he⟩ <;> rw [he]
  · exact hnone
  · obtain ⟨x, hx⟩ := h p
    exact ⟨x, hx.trans (Ending.settle_keeps _)⟩

theorem State.runConfig_sets : ∃ c, s.Sets { s.registers with config := c } (s.runRow .config configBody) :=
  s.runRow_sets ⟨_, .refl s⟩ fun p => configBody_sets p s

theorem State.runTimeSet_sets : ∃ n, s.Sets { s.registers with time := n } (s.runRow .timeSet timeSetBody) :=
  s.runRow_sets ⟨_, .refl s⟩ fun p => timeSetBody_sets p s

theorem State.runSetMode_sets : ∃ m, s.Sets { s.registers with mode := m } (s.runRow .setMode setModeBody) :=
  s.runRow_sets ⟨_, .refl s⟩ fun p => setModeBody_sets p s

end

/-! ## Every command -/

/-- The commands that may set a register, and the registers each may set. -/
inductive CommandSets (r : Registers) : Instr → Registers → Prop
  | nothing (c : Instr) : CommandSets r c r
  | config (v : ConfigSet) : CommandSets r .config { r with config := v }
  | mode (m : Mode) : CommandSets r .setMode { r with mode := m }
  | timeSet (n : Nat) : CommandSets r .timeSet { r with time := n }
  | advance (n : Nat) : CommandSets r .timeBaseAdvance { r with time := n }
  | replay (v : ConfigSet) (m : Mode) (n : Nat) :
      CommandSets r .bootReplayFrame { r with config := v, mode := m, time := n }
  | eraseBlock (f : Memory) : CommandSets r .flashEraseBlock { r with flash := f }
  | writeEnd (f : Memory) : CommandSets r .flashWriteEnd { r with flash := f }
  | release (node modePins : Nat) (boot : Bool) (straps : Straps) (v : ConfigSet) (m : Mode) (n : Nat) :
      CommandSets r (.powerOnResetRelease node modePins boot) ⟨straps, v, m, n, r.flash⟩

/-- What every command sets of the registers, and that it keeps the queue's entries apart. -/
theorem exec_sets (c : Instr) (s : State) :
    ∃ t r, exec c s = .next t ∧ CommandSets s.registers c r ∧ s.Sets r t := by
  cases c with
  | resetAssert => exact ⟨_, _, rfl, .nothing _, rfl, id⟩
  | powerOnResetRelease node modePins boot =>
    exact ⟨_, _, rfl, .release .., rfl, fun _ => ⟨Nat.zero_le _, List.nodup_nil, fun _ h => nomatch h⟩⟩
  | initEnd => exact ⟨_, _, rfl, .nothing _, .ite s.endInit_keeps (.refl s)⟩
  | timeBaseAdvance =>
    obtain ⟨n, hn⟩ := s.timeBaseAdvance_sets
    exact ⟨_, _, rfl, .advance n, hn⟩
  | linkWatchdogExpiry => exact ⟨_, _, rfl, .nothing _, .ite (s.leavePass_keeps _) (.refl s)⟩
  | sourceSilent n => exact ⟨_, _, rfl, .nothing _, .ite ((State.silenceSource_keeps _ n).after ⟨rfl, id⟩) (.refl s)⟩
  | lineSignalLoss => exact ⟨_, _, rfl, .nothing _, .ite ((State.loseLine_keeps _).after ⟨rfl, id⟩) ⟨rfl, id⟩⟩
  | lineSignalReturn => exact ⟨_, _, rfl, .nothing _, .ite ((State.regainLine_keeps _).after ⟨rfl, id⟩) ⟨rfl, id⟩⟩
  | fPortFrameReceived frame => exact ⟨_, _, rfl, .nothing _, .ite (s.receiveField_keeps _) (.refl s)⟩
  | dPortFrameReceived frame => exact ⟨_, _, rfl, .nothing _, .ite (s.receiveDispatch_keeps _) (.refl s)⟩
  | fPortFrameSent => exact ⟨_, _, rfl, .nothing _, .ite s.finishDown_keeps (.refl s)⟩
  | dPortFrameSent => exact ⟨_, _, rfl, .nothing _, .ite s.choose_keeps (.refl s)⟩
  | scannerVisit => exact ⟨_, _, rfl, .nothing _, .ite s.scanOnce_keeps (.refl s)⟩
  | sweepStep => exact ⟨_, _, rfl, .nothing _, .ite (.refl s) s.sweepOnce_keeps⟩
  | clearingEnd => exact ⟨_, _, rfl, .nothing _, .ite (.refl s) s.clearingDone_keeps⟩
  | validationEnd => exact ⟨_, _, rfl, .nothing _, .ite (.refl s) s.validationDone_keeps⟩
  | bootReplayFrame =>
    obtain ⟨v, m, n, hset⟩ := s.bootReplayFrame_reconfigures
    exact ⟨_, _, rfl, .replay v m n, hset⟩
  | flashEraseBlock =>
    obtain ⟨f, hf⟩ := s.flashEraseBlock_sets
    exact ⟨_, _, rfl, .eraseBlock f, hf⟩
  | flashWriteEnd =>
    obtain ⟨f, hf⟩ := s.flashWriteEnd_sets
    exact ⟨_, _, rfl, .writeEnd f, hf⟩
  | config =>
    obtain ⟨v, hv⟩ := s.runConfig_sets
    exact ⟨_, _, rfl, .config v, hv⟩
  | timeSet =>
    obtain ⟨n, hn⟩ := s.runTimeSet_sets
    exact ⟨_, _, rfl, .timeSet n, hn⟩
  | setMode =>
    obtain ⟨m, hm⟩ := s.runSetMode_sets
    exact ⟨_, _, rfl, .mode m, hm⟩
  | mgmtBadVector | status | restartClear | restartFull | readCountersPort | readCountersSource | loadBegin | loadEnd
  | classWrite | templateWrite | assetWrite | trunkWrite | queryAsset | queryList | ackFault | ackRestored
  | setServiceOut | setServiceIn | stormOn | stormOff | escArm | escAck | flashErase | flashWrite =>
    exact ⟨_, _, rfl, .nothing _, State.runRow_keeps (by rfl) s⟩

section
variable {r r' : Registers} {c : Instr} (h : CommandSets r c r')
include h

/-- Power-on reset release alone sets the straps. -/
theorem CommandSets.straps_eq (hr : ∀ node modePins boot, c ≠ .powerOnResetRelease node modePins boot) :
    r'.straps = r.straps := by
  cases h with
  | release => exact absurd rfl (hr _ _ _)
  | _ => rfl

/-- Power-on reset release, CONFIG and the replay alone set the configuration set. -/
theorem CommandSets.config_eq (hr : ∀ node modePins boot, c ≠ .powerOnResetRelease node modePins boot)
    (hc : c ≠ .config) (hb : c ≠ .bootReplayFrame) : r'.config = r.config := by
  cases h with
  | release => exact absurd rfl (hr _ _ _)
  | config => exact absurd rfl hc
  | replay => exact absurd rfl hb
  | _ => rfl

/-- Power-on reset release, SET MODE and the replay alone set the mode. -/
theorem CommandSets.mode_eq (hr : ∀ node modePins boot, c ≠ .powerOnResetRelease node modePins boot)
    (hm : c ≠ .setMode) (hb : c ≠ .bootReplayFrame) : r'.mode = r.mode := by
  cases h with
  | release => exact absurd rfl (hr _ _ _)
  | mode => exact absurd rfl hm
  | replay => exact absurd rfl hb
  | _ => rfl

/-- Power-on reset release, TIME SET, the advance and the replay alone set the time base. -/
theorem CommandSets.time_eq (hr : ∀ node modePins boot, c ≠ .powerOnResetRelease node modePins boot)
    (ht : c ≠ .timeSet) (ha : c ≠ .timeBaseAdvance) (hb : c ≠ .bootReplayFrame) : r'.time = r.time := by
  cases h with
  | release => exact absurd rfl (hr _ _ _)
  | timeSet => exact absurd rfl ht
  | advance => exact absurd rfl ha
  | replay => exact absurd rfl hb
  | _ => rfl

/-- The ends of an erased block and of a write alone set the flash. -/
theorem CommandSets.flash_eq (he : c ≠ .flashEraseBlock) (hw : c ≠ .flashWriteEnd) : r'.flash = r.flash := by
  cases h with
  | eraseBlock => exact absurd rfl he
  | writeEnd => exact absurd rfl hw
  | _ => rfl

end

/-- What a command that answers `t` may have set, and that it kept the queue's entries apart. -/
theorem sets_of_exec {c : Instr} {s t : State} (h : exec c s = .next t) :
    CommandSets s.registers c t.registers ∧ (QueueApart s.notices.entries → QueueApart t.notices.entries) := by
  obtain ⟨t', r, hexec, hmay, hset⟩ := exec_sets c s
  obtain rfl := Host.Outcome.next.inj (hexec.symm.trans h)
  exact ⟨hset.registers ▸ hmay, hset.apart⟩

/-- Settles O3: the registers that each command may set. -/
theorem registersChangeOnlyByTheirCommands : Obligations.RegistersChangeOnlyByTheirCommands := by
  unfold Obligations.RegistersChangeOnlyByTheirCommands
  refine ⟨fun c s t hr h => ?_, fun c s t he hw h => ?_⟩
  · have hmay := (sets_of_exec h).1
    exact ⟨hmay.straps_eq hr, hmay.config_eq hr, hmay.mode_eq hr, hmay.time_eq hr⟩
  · exact (sets_of_exec h).1.flash_eq he hw

/-- Settles O55: the step's command keeps the entries apart. -/
theorem everyStepKeepsNoticesApart : Obligations.EveryStepKeepsNoticesApart := by
  unfold Obligations.EveryStepKeepsNoticesApart
  intro s t hs hstep
  rw [State.noticesApart_iff] at hs ⊢
  simp only [step] at hstep
  split at hstep
  · exact Host.Outcome.next.inj hstep ▸ hs
  · exact (sets_of_exec hstep).2 hs

end Sys2Proof.Machine

/-! Root cause correlation and the Sweep Engine (03_root_cause_correlation_and_the_sweep_engine.md): the order of the
Sweep Queue, an adoption, one step of a walk, and ACK RESTORED. -/

namespace Sys2Proof.Machine

/-! ## The walks in the Sweep Queue -/

/-- The walks of the queued jobs, in arrival order. -/
def State.walks (s : State) : List Walk := s.sweep.jobs.map SweepJob.walk

/-- A job is queued when its walk is among those of the queue. -/
theorem State.hasJob_iff (s : State) (w : Walk) : s.hasJob w = true ↔ w ∈ s.walks := by
  simp [State.hasJob, State.walks]

/-- The queue is full at 8 walks (R49). -/
theorem State.sweepFull_iff (s : State) : s.sweepFull = true ↔ 8 ≤ s.walks.length := by
  rw [State.sweepFull, decide_eq_true_iff, State.walks, List.length_map]
  rfl

/-- An ACK job is queued when its walk is among those of the queue. -/
theorem State.hasAck_iff (s : State) : s.hasAck = true ↔ ∃ z, Walk.ack z ∈ s.walks := by
  simp only [State.hasAck, State.walks, List.any_eq_true, List.mem_map]
  constructor
  · rintro ⟨j, hj, hack⟩
    cases hw : j.walk with
    | ack z => exact ⟨z, j, hj, hw⟩
    | adopt | release => simp [hw, Walk.isAck] at hack
  · rintro ⟨z, j, hj, hw⟩
    exact ⟨j, hj, by simp [hw, Walk.isAck]⟩

/-- The walks that clash with an ADOPT of a root are the two of that root (R49). -/
theorem Walk.clashes_adopt_iff (w : Walk) (root : Nat) :
    w.clashes (.adopt root) ↔ w = .adopt root ∨ w = .release root := by
  cases w <;> simp [Walk.clashes]

/-- The walks that clash with a RELEASE of a root are the two of that root (R49). -/
theorem Walk.clashes_release_iff (w : Walk) (root : Nat) :
    w.clashes (.release root) ↔ w = .adopt root ∨ w = .release root := by
  cases w <;> simp [Walk.clashes]

/-- The walks that clash with an ACK are the ACKs (R49). -/
theorem Walk.clashes_ack_iff (w : Walk) (zone : Option Nat) : w.clashes (.ack zone) ↔ ∃ z, w = .ack z := by
  cases w <;> simp [Walk.clashes]

/-- A clash is mutual. -/
theorem Walk.clashes_symm (v w : Walk) (h : v.clashes w) : w.clashes v := by
  cases w with
  | adopt root | release root =>
    simp only [Walk.clashes_adopt_iff, Walk.clashes_release_iff] at h
    rcases h with rfl | rfl <;> exact rfl
  | ack zone =>
    obtain ⟨z, rfl⟩ := (v.clashes_ack_iff zone).mp h
    trivial

/-- A start makes no other walks. -/
@[simp] theorem State.startFirst_walks (s : State) : s.startFirst.walks = s.walks := by
  simp only [State.startFirst]
  split
  · rfl
  · next j rest hj => split <;> simp [State.walks, hj]

/-- A job removed takes its walk out of the queue, and no other. -/
@[simp] theorem State.removeJob_walks (s : State) (w : Walk) :
    (s.removeJob w).walks = s.walks.filter fun x => decide (x ≠ w) := by
  simp only [State.removeJob, State.startFirst_walks]
  simp [State.walks, List.filter_map, Function.comp_def]

/-- The end of a queued ADOPT takes its walk out of the queue, and no other. -/
theorem State.endAdopt_walks {s : State} {root : Nat} (h : .adopt root ∈ s.walks) :
    (s.endAdopt root).walks = s.walks.filter fun x => decide (x ≠ .adopt root) := by
  rw [State.endAdopt, if_pos ((s.hasJob_iff _).mpr h)]
  simp only
  split
  · simpa [State.walks] using s.removeJob_walks (.adopt root)
  · exact s.removeJob_walks _

/-! ## The Sweep Queue in order -/

/-- The invariant, read from the list and the queued jobs alone. -/
theorem State.SweepOrdered.of_eq {s t : State} (h : s.SweepOrdered) (hb : t.board = s.board)
    (hj : t.sweep.jobs = s.sweep.jobs) : t.SweepOrdered := by
  obtain ⟨hplaces, hapart, hfirst, hothers, hboard, honce⟩ := h
  rw [← hj] at hplaces hapart hfirst hothers hboard
  rw [← hb] at hboard honce
  exact ⟨hplaces, hapart, hfirst, hothers, hboard, honce⟩

/-- No two queued walks clash. -/
theorem State.SweepOrdered.walks_apart {s : State} (h : s.SweepOrdered) :
    s.walks.Pairwise fun v w => ¬ v.clashes w := List.pairwise_map.mpr h.apart

/-- A root with a queued ADOPT has no queued RELEASE (R49). -/
theorem State.SweepOrdered.not_release_of_adopt {s : State} (h : s.SweepOrdered) {root : Nat}
    (hadopt : .adopt root ∈ s.walks) : Walk.release root ∉ s.walks := by
  intro hrelease
  have hsymm : Std.Symm fun v w : Walk => ¬ v.clashes w := ⟨fun v w => mt (Walk.clashes_symm w v)⟩
  exact h.walks_apart.forall hadopt hrelease (by simp) rfl

/-- The Sweep Queue in order but for the start of its first job. -/
structure State.SweepStartable (s : State) : Prop where
  places : s.sweep.jobs.length ≤ 8
  apart : s.sweep.jobs.Pairwise fun i j => ¬ i.walk.clashes j.walk
  others : ∀ j ∈ s.sweep.jobs.tail, j.state = .waiting ∧ j.position = none ∧ j.tally = 0
  onBoard : ∀ j ∈ s.sweep.jobs, ∀ e ∈ j.position, e ∈ s.board
  once : s.board.Nodup

/-- The start of the first job brings the queue in order (R53). -/
theorem State.SweepStartable.started {s : State} (h : s.SweepStartable) : s.startFirst.SweepOrdered := by
  obtain ⟨hplaces, hapart, hothers, hboard, honce⟩ := h
  cases hjobs : s.sweep.jobs with
  | nil =>
    have hstart : s.startFirst = s := by simp [State.startFirst, hjobs]
    rw [hstart]
    exact ⟨hplaces, hapart, by simp [hjobs], hothers, hboard, honce⟩
  | cons j rest =>
    rw [hjobs] at hplaces hapart hothers hboard
    by_cases hw : j.state = .waiting
    · have hstart : s.startFirst =
          { s with sweep.jobs := { j with state := .running, position := s.board.head?, tally := 0 } :: rest } := by
        simp [State.startFirst, hjobs, hw]
      rw [hstart]
      refine ⟨hplaces, List.pairwise_cons.mpr (List.pairwise_cons.mp hapart), by simp, hothers, ?_, honce⟩
      intro i hi e he
      rcases List.mem_cons.mp hi with rfl | hi
      · exact List.mem_of_head? he
      · exact hboard i (List.mem_cons_of_mem _ hi) e he
    · have hstart : s.startFirst = s := by simp [State.startFirst, hjobs, hw]
      have hrunning : j.state = .running := by cases hs : j.state <;> simp_all
      rw [hstart]
      exact ⟨by rwa [hjobs], by rwa [hjobs], by simp [hjobs, hrunning], by rwa [hjobs], by rwa [hjobs], honce⟩

/-- `t` has the Sweep Queue in order if `s` had. -/
structure State.KeepsOrder (s t : State) : Prop where
  ordered : s.SweepOrdered → t.SweepOrdered

theorem State.KeepsOrder.refl (s : State) : s.KeepsOrder s := ⟨id⟩

theorem State.KeepsOrder.trans {s t u : State} (h : s.KeepsOrder t) (h' : t.KeepsOrder u) : s.KeepsOrder u :=
  ⟨h'.ordered ∘ h.ordered⟩

/-- What leaves the list and the queued jobs keeps their order. -/
theorem State.KeepsOrder.unchanged {s t : State} (hb : t.board = s.board) (hj : t.sweep.jobs = s.sweep.jobs) :
    s.KeepsOrder t := ⟨fun h => h.of_eq hb hj⟩

/-- What empties the list and the queue has them in order. -/
theorem State.KeepsOrder.emptied {s t : State} (hb : t.board = []) (hj : t.sweep.jobs = []) : s.KeepsOrder t :=
  ⟨fun _ => by constructor <;> simp [hb, hj]⟩

/-- A choice between two that keep the order. -/
theorem State.KeepsOrder.ite {s t u : State} {choice : Prop} [Decidable choice] (ht : s.KeepsOrder t)
    (hu : s.KeepsOrder u) : s.KeepsOrder (if choice then t else u) := by
  split
  · exact ht
  · exact hu

/-! ### The list -/

section
variable (s : State)

/-- An entry joins the list at the tail, where no walk stands on it (R71). -/
theorem State.join_order (a : Nat) : s.KeepsOrder (s.join a) := by
  refine ⟨fun h => ?_⟩
  by_cases ha : a ∈ s.board
  · rwa [State.join_listed ha]
  · have hboard := State.join_board ha
    obtain ⟨hplaces, hapart, hfirst, hothers, honboard, honce⟩ := h
    constructor
    case onBoard =>
      simp only [State.join_frame, hboard]
      exact fun j hj e he => List.mem_append_left _ (honboard j hj e he)
    case once =>
      rw [hboard, List.nodup_append]
      exact ⟨honce, by simp, fun b hb c hc => by rintro rfl; simp_all⟩
    all_goals simpa

/-- A step past an entry is the same walk. -/
theorem SweepJob.stepPast_eq (j : SweepJob) (a : Nat) (next : Option Nat) :
    j.stepPast a next = { j with position := if j.position = some a then next else j.position } := by
  simp only [SweepJob.stepPast]
  split <;> rfl

/-- An entry leaves the list, and a walk standing on it goes to its successor (R56, R73). -/
theorem State.leave_order (a : Nat) : s.KeepsOrder (s.leave a) := by
  refine ⟨fun h => ?_⟩
  by_cases ha : a ∈ s.board
  · obtain ⟨hplaces, hapart, hfirst, hothers, honboard, honce⟩ := h
    rw [State.leave, if_pos ha]
    constructor
    case places => simpa using hplaces
    case apart => simpa [List.pairwise_map, SweepJob.stepPast_eq] using hapart
    case first => simpa [SweepJob.stepPast_eq] using hfirst
    case others =>
      simp only [← List.map_tail, List.forall_mem_map]
      intro j hj
      obtain ⟨hwaiting, hnone, hzero⟩ := hothers j hj
      simp [SweepJob.stepPast_eq, hwaiting, hnone, hzero]
    case onBoard =>
      simp only [List.forall_mem_map, SweepJob.stepPast_eq]
      intro j hj e he
      rw [honce.mem_erase_iff]
      split at he
      · exact ⟨successorIn_ne honce he, successorIn_mem he⟩
      · next hne => exact ⟨fun hea => hne (hea ▸ he), honboard j hj e he⟩
    case once => exact honce.erase a
  · rwa [State.leave, if_neg ha]

theorem State.leaveUnlessListed_order (a : Nat) : s.KeepsOrder (s.leaveUnlessListed a) :=
  .ite (.refl s) (s.leave_order a)

theorem State.clearLatch_order (a : Nat) : s.KeepsOrder (s.clearLatch a) :=
  have hcleared : s.KeepsOrder (s.modRecord a fun r => { r with latch := .clear }) := .unchanged rfl rfl
  hcleared.trans (State.leaveUnlessListed_order _ a)

/-! ### Jobs that join and leave -/

/-- A job whose walk clashes with none joins where there is a place (R50). -/
theorem State.SweepOrdered.joined {s : State} (h : s.SweepOrdered) {w : Walk} (hroom : s.walks.length < 8)
    (hfree : ∀ v ∈ s.walks, ¬ v.clashes w) : (s.joinJob w).SweepOrdered := by
  obtain ⟨hplaces, hapart, hfirst, hothers, honboard, honce⟩ := h
  refine State.SweepStartable.started ⟨?_, ?_, ?_, ?_, honce⟩
  · simpa [State.walks] using hroom
  · refine List.pairwise_append.mpr ⟨hapart, by simp, fun j hj i hi => ?_⟩
    obtain rfl := List.mem_singleton.mp hi
    exact hfree _ (List.mem_map_of_mem hj)
  · intro j hj
    cases hjobs : s.sweep.jobs with
    | nil => simp [hjobs] at hj
    | cons i rest =>
      simp only [hjobs, List.cons_append, List.tail_cons, List.mem_append, List.mem_singleton] at hj
      rcases hj with hj | rfl
      · exact hothers j (by simpa [hjobs] using hj)
      · exact ⟨rfl, rfl, rfl⟩
  · intro j hj e he
    rcases List.mem_append.mp hj with hj | hj
    · exact honboard j hj e he
    · obtain rfl := List.mem_singleton.mp hj
      exact nomatch he

/-- A job leaves the queue, and the next one starts (R53). -/
theorem State.removeJob_order (w : Walk) : s.KeepsOrder (s.removeJob w) := by
  refine ⟨fun ⟨hplaces, hapart, _, hothers, honboard, honce⟩ => ?_⟩
  have hsub : (s.sweep.jobs.filter fun j => decide (j.walk ≠ w)).Sublist s.sweep.jobs := List.filter_sublist
  exact State.SweepStartable.started ⟨hsub.length_le.trans hplaces, hapart.sublist hsub,
    fun j hj => hothers j (hsub.tail.subset hj), fun j hj => honboard j (hsub.subset hj), honce⟩

theorem State.endAdopt_order (root : Nat) : s.KeepsOrder (s.endAdopt root) := by
  have hremoved := s.removeJob_order (.adopt root)
  simp only [State.endAdopt]
  split
  · split
    · exact hremoved.trans (.unchanged (by simp) (by simp))
    · exact hremoved
  · exact .refl s

theorem State.cancelReleaseIfMasking_order (a : Nat) : s.KeepsOrder (s.cancelReleaseIfMasking a) :=
  .ite (.ite (s.removeJob_order _) (.refl s)) (.refl s)

/-- An asset that is masking-faulted has no RELEASE after the cancellation (R66). -/
theorem State.not_release_cancelReleaseIfMasking {s : State} {a : Nat} (h : s.maskingFaulted a = true) :
    Walk.release a ∉ (s.cancelReleaseIfMasking a).walks := by
  rw [State.cancelReleaseIfMasking, if_pos h, State.cancelRelease]
  split
  · simp
  · next hnone => exact mt (s.hasJob_iff _).mpr hnone

/-! ### Requests -/

/-- An ADOPT of a root with no RELEASE is merged, dropped, or joins (R50, R51). -/
theorem State.requestAdopt_order {root : Nat} (hfree : .release root ∉ s.walks) :
    s.KeepsOrder (s.requestAdopt root) := by
  refine ⟨fun h => ?_⟩
  simp only [State.requestAdopt]
  split
  · exact h
  · next hnone =>
    split
    · exact h.of_eq rfl rfl
    · next hroom =>
      rw [s.hasJob_iff] at hnone
      rw [s.sweepFull_iff, Nat.not_le] at hroom
      refine h.joined hroom fun v hv => ?_
      rw [Walk.clashes_adopt_iff]
      rintro (rfl | rfl)
      · exact hnone hv
      · exact hfree hv

/-- A RELEASE request that is not refused takes the place of the root's ADOPT, is merged, or joins (R50). -/
theorem State.queueRelease_order {root : Nat} (hplace : s.releaseRefused root = false) :
    s.KeepsOrder (s.queueRelease root) := by
  refine ⟨fun h => ?_⟩
  simp only [State.queueRelease]
  split
  · next hadopt =>
    rw [s.hasJob_iff] at hadopt
    have hwalks := State.endAdopt_walks hadopt
    have hshorter : (s.endAdopt root).walks.length < s.walks.length := by
      rw [hwalks, List.length_filter_lt_length_iff_exists]
      exact ⟨_, hadopt, by simp⟩
    have hplaces : s.walks.length ≤ 8 := by simpa [State.walks] using h.places
    refine ((s.endAdopt_order root).ordered h).joined (by omega) fun v hv => ?_
    rw [hwalks, List.mem_filter] at hv
    rw [Walk.clashes_release_iff]
    rintro (rfl | rfl)
    · simp at hv
    · exact h.not_release_of_adopt hadopt hv.1
  · next hadopt =>
    split
    · exact h
    · next hrelease =>
      have hroom : ¬ s.sweepFull = true := by
        intro hfull
        simp [State.releaseRefused, hadopt, hrelease, hfull] at hplace
      rw [s.hasJob_iff] at hadopt hrelease
      rw [s.sweepFull_iff, Nat.not_le] at hroom
      refine h.joined hroom fun v hv => ?_
      rw [Walk.clashes_release_iff]
      rintro (rfl | rfl)
      · exact hadopt hv
      · exact hrelease hv

/-- What a merge leaves of a job: its state and tally, and a waiting job's position (R52). -/
theorem SweepJob.mergeAck_cases (j : SweepJob) (zone head : Option Nat) :
    j.mergeAck zone head = j ∨ ∃ y z, j.walk = .ack y ∧ j.mergeAck zone head =
      { j with walk := .ack z, position := if j.state = .running then head else j.position } := by
  cases hw : j.walk with
  | ack y => exact .inr ⟨y, _, rfl, by simp only [SweepJob.mergeAck, hw]; rfl⟩
  | adopt | release => exact .inl (by simp [SweepJob.mergeAck, hw])

/-- A merge keeps a walk's clashes with others, and its job's state and tally (R49, R52). -/
theorem SweepJob.mergeAck_keeps (j : SweepJob) (zone head : Option Nat) :
    (j.mergeAck zone head).state = j.state ∧ (j.mergeAck zone head).tally = j.tally ∧
      (j.state = .waiting → (j.mergeAck zone head).position = j.position) ∧
      ((j.mergeAck zone head).position = j.position ∨ (j.mergeAck zone head).position = head) := by
  rcases j.mergeAck_cases zone head with hm | ⟨y, z, -, hm⟩ <;> rw [hm]
  · simp
  · refine ⟨rfl, rfl, fun hw => by simp [hw], ?_⟩
    simp only
    split
    · exact .inr rfl
    · exact .inl rfl

/-- Two merged walks clash where the two did. -/
theorem SweepJob.mergeAck_clashes (i j : SweepJob) (zone head : Option Nat) :
    (i.mergeAck zone head).walk.clashes (j.mergeAck zone head).walk ↔ i.walk.clashes j.walk := by
  rcases i.mergeAck_cases zone head with hi | ⟨_, _, hwi, hi⟩ <;>
    rcases j.mergeAck_cases zone head with hj | ⟨_, _, hwj, hj⟩ <;> rw [hi, hj]
  · simp [hwj, Walk.clashes_ack_iff]
  · rw [hwi]
    cases j.walk <;> simp [Walk.clashes]
  · simp [hwi, hwj, Walk.clashes]

/-- An ACK request that is not refused is merged or joins (R50, R52). -/
theorem State.queueAck_order {zone : Option Nat} (hplace : ¬ (!s.hasAck ∧ s.sweepFull)) :
    s.KeepsOrder (s.queueAck zone) := by
  refine ⟨fun h => ?_⟩
  simp only [State.queueAck]
  split
  · obtain ⟨hplaces, hapart, hfirst, hothers, honboard, honce⟩ := h
    constructor
    case places => simpa using hplaces
    case apart => simpa [List.pairwise_map, SweepJob.mergeAck_clashes] using hapart
    case first => simpa [SweepJob.mergeAck_keeps] using hfirst
    case others =>
      simp only [← List.map_tail, List.forall_mem_map]
      intro j hj
      obtain ⟨hstate, htally, hposition, -⟩ := j.mergeAck_keeps zone s.board.head?
      obtain ⟨hwaiting, hnone, hzero⟩ := hothers j hj
      exact ⟨hstate.trans hwaiting, (hposition hwaiting).trans hnone, htally.trans hzero⟩
    case onBoard =>
      simp only [List.forall_mem_map]
      intro j hj e he
      obtain ⟨-, -, -, hposition | hposition⟩ := j.mergeAck_keeps zone s.board.head? <;> rw [hposition] at he
      · exact honboard j hj e he
      · exact List.mem_of_head? he
    case once => exact honce
  · next hnone =>
    have hroom : ¬ s.sweepFull = true := fun hfull => hplace (by simp [hnone, hfull])
    rw [s.hasAck_iff, not_exists] at hnone
    rw [s.sweepFull_iff, Nat.not_le] at hroom
    refine h.joined hroom fun v hv => ?_
    rw [Walk.clashes_ack_iff]
    rintro ⟨z, rfl⟩
    exact hnone z hv

end

/-! ### The running job -/

/-- The running job may take another position on the list, and another tally. -/
theorem State.SweepOrdered.running {s : State} (h : s.SweepOrdered) {j : SweepJob} {rest : List SweepJob}
    (hjobs : s.sweep.jobs = j :: rest) {position : Option Nat} (hposition : ∀ e ∈ position, e ∈ s.board) (tally : Nat) :
    ({ s with sweep.jobs := { j with position := position, tally := tally } :: rest } : State).SweepOrdered := by
  obtain ⟨hplaces, hapart, hfirst, hothers, honboard, honce⟩ := h
  rw [hjobs] at hplaces hapart hfirst hothers honboard
  refine ⟨hplaces, List.pairwise_cons.mpr (List.pairwise_cons.mp hapart), by simpa using hfirst, hothers, ?_, honce⟩
  intro i hi e he
  rcases List.mem_cons.mp hi with rfl | hi
  · exact hposition e he
  · exact honboard i (List.mem_cons_of_mem _ hi) e he

section
variable (s : State)

theorem State.raiseTally_order : s.KeepsOrder s.raiseTally := by
  refine ⟨fun h => ?_⟩
  simp only [State.raiseTally]
  split
  · exact h
  · next j rest hjobs => exact h.running hjobs (h.onBoard j (by simp [hjobs])) _

theorem State.moveWalk_order (a : Nat) : s.KeepsOrder (s.moveWalk (s.successor a)) := by
  refine ⟨fun h => ?_⟩
  simp only [State.moveWalk]
  split
  · exact h
  · next j rest hjobs => exact h.running hjobs (fun e he => successorIn_mem he) j.tally

theorem State.adopt_order (root e : Nat) : s.KeepsOrder (s.adopt root e) :=
  have hattributed : s.KeepsOrder
      (((s.attribute e root).modRecord e fun r => { r with latch := .clear }).withdraw e).uncountIndependent :=
    .unchanged (by simp) (by simp)
  hattributed.trans (State.raiseTally_order _)

theorem State.visit_order (w : Walk) (e : Nat) : s.KeepsOrder (s.visit w e) := by
  refine (s.moveWalk_order e).trans ?_
  cases w with
  | adopt root => exact .ite (State.adopt_order ..) (.refl _)
  | release root =>
    have hvisited : ∀ t : State, t.KeepsOrder (t.releaseVisit root e) := fun t => .unchanged (by simp) (by simp)
    exact hvisited _
  | ack zone => exact .ite (State.clearLatch_order ..) (.refl _)

theorem State.sweepOnce_order : s.KeepsOrder s.sweepOnce := by
  simp only [State.sweepOnce]
  split
  · exact .refl s
  · next j _ _ =>
    refine .ite (s.removeJob_order _) ?_
    split
    · cases hw : j.walk with
      | adopt root => exact s.endAdopt_order root
      | release | ack => exact s.removeJob_order _
    · exact s.visit_order ..

/-! ### The Correlator -/

theorem State.suppress_order (a root : Nat) : s.KeepsOrder (s.suppress a root) :=
  have hattributed : s.KeepsOrder (s.attribute a root) := .unchanged (by simp) (by simp)
  hattributed.trans (State.join_order _ a)

/-- A record of a masking class that has become faulted has no RELEASE (R66). -/
theorem State.not_release_enterFault {s : State} {a : Nat} {c : Condition} (hc : c.faulted = true)
    (hm : (s.classOf a).masking = true) (v : Severity) : Walk.release a ∉ (s.enterFault a c v).walks := by
  refine State.not_release_cancelReleaseIfMasking ?_
  rw [State.modRecord_eq, State.maskingFaulted, State.record_setRecord_of_ne _ (by simp [clearRecord])]
  simp [hm, FaultRecord.faulted, hc]

/-- The independent outcome, for a record that may ask for adoption only where it has no RELEASE (R16). -/
theorem State.standAlone_order {a : Nat} (hfree : (s.classOf a).masking = true → Walk.release a ∉ s.walks)
    (k : NoticeKind) : s.KeepsOrder (s.standAlone k a) := by
  rw [State.standAlone_eq]
  set held := (s.modRecord a fun r => { r with latch := .held }).countIndependent
  set told := held.requestAsset k a (held.record a).condition (held.record a).severity none (held.record a).dependents
  have hoffered : s.KeepsOrder (told.offerStorm.offerEscalation k a) :=
    .unchanged (by simp [told, held]) (by simp [told, held])
  refine (hoffered.trans (State.join_order _ a)).trans ?_
  have hclass : ((told.offerStorm.offerEscalation k a).join a).classOf a = s.classOf a :=
    State.classOf_congr (by simp [told, held]) a
  have hwalks : ((told.offerStorm.offerEscalation k a).join a).walks = s.walks := by simp [State.walks, told, held]
  rw [State.requestAdoptIfMasking, hclass]
  split
  · next hasks =>
    refine State.requestAdopt_order _ ?_
    rw [hwalks]
    exact hfree (Bool.and_eq_true_iff.mp hasks).1
  · exact .refl _

theorem State.qualify_order {c : Condition} (hc : c.faulted = true) (a : Nat) (v : Severity) (k : NoticeKind) :
    s.KeepsOrder (s.qualify a c v k) := by
  have hnormal : s.KeepsOrder (s.modRecord a fun r =>
      { r with condition := c, run := 0, severity := v, qualifiedAt := some s.now }) := .unchanged rfl rfl
  have hentered : s.KeepsOrder (s.enterFault a c v) := hnormal.trans (State.cancelReleaseIfMasking_order _ a)
  have hclass : (s.enterFault a c v).classOf a = s.classOf a := State.classOf_congr (by simp) a
  simp only [State.qualify]
  split
  · exact hentered.trans (State.suppress_order ..)
  · exact hentered.trans (State.standAlone_order _ (fun hm => State.not_release_enterFault hc (hclass ▸ hm) v) k)

theorem State.settleRestored_order (a : Nat) (v : Severity) (n : Nat) (b : Bool) :
    s.KeepsOrder (s.settleRestored a v n b) := .unchanged (by simp) (by simp)

/-- A restore that needs no RELEASE, or has a place for it (R19). -/
theorem State.restore_order {a : Nat} (h : ¬ (0 < (s.record a).dependents ∧ s.releaseRefused a)) :
    s.KeepsOrder (s.restore a) := by
  set normal := s.modRecord a fun r => { r with condition := .normal, run := 0, severity := .none }
  have hnormal : s.KeepsOrder normal := .unchanged rfl rfl
  have hreleased : s.KeepsOrder (if 0 < (s.record a).dependents then normal.queueRelease a else normal) := by
    split
    · next hdependents =>
      have hplace : s.releaseRefused a = false := by simpa [hdependents] using h
      exact hnormal.trans (normal.queueRelease_order hplace)
    · exact hnormal
  exact ((hreleased.trans (State.settleRestored_order ..)).trans (State.leaveUnlessListed_order _ a)).trans
    (State.endAdopt_order _ a)

theorem State.attemptRestore_order (a : Nat) : s.KeepsOrder (s.attemptRestore a) := by
  rw [State.attemptRestore]
  split
  · exact .refl s
  · next h => exact s.restore_order h

theorem State.suspect_order (a n : Nat) (v : Severity) : s.KeepsOrder (s.suspect a n v) :=
  .ite (s.qualify_order rfl ..) (.unchanged rfl rfl)

theorem State.recover_order (a n : Nat) : s.KeepsOrder (s.recover a n) := by
  have hrecovering : s.KeepsOrder (s.modRecord a fun r =>
      { r with condition := .recovering, run := min n (s.classOf a).restoreCount }) := .unchanged rfl rfl
  exact .ite (hrecovering.trans (State.attemptRestore_order _ a)) hrecovering

theorem State.runMachine_order (a : Nat) (st : Status) : s.KeepsOrder (s.runMachine a st) := by
  have hnotOk : ∀ v, s.KeepsOrder (s.machineNotOk a v) := by
    intro v
    simp only [State.machineNotOk]
    split
    case h_1 | h_2 | h_3 => exact s.suspect_order ..
    case h_4 | h_5 | h_6 => exact .unchanged (by simp) (by simp)
    case h_7 => exact .refl s
  cases st with
  | ok =>
    simp only [State.runMachine, State.machineOk]
    split
    case h_1 | h_2 | h_3 => exact .unchanged rfl rfl
    case h_4 | h_5 | h_6 => exact s.recover_order ..
    case h_7 => exact .refl s
  | degraded | failed => exact hnotOk _

theorem State.judgeItem_order (a : Nat) (st : Status) : s.KeepsOrder (s.judgeItem a st) :=
  have hscored : s.KeepsOrder (s.scoreFlap a st) := .unchanged (by simp) (by simp)
  .ite (.refl s) (hscored.trans (State.runMachine_order ..))

theorem State.processItem_order (a : Nat) (i : Item) (st : Status) (n : Nat) :
    s.KeepsOrder (s.processItem a i st n) := by
  have hrefreshed : s.KeepsOrder (s.refresh a i n) := .unchanged rfl rfl
  have hended : s.KeepsOrder ((s.refresh a i n).modRecord a fun r => { r with testUntil := none }) := .unchanged rfl rfl
  exact .ite (.ite (hrefreshed.trans (State.judgeItem_order ..)) (.unchanged rfl rfl))
    (hended.trans (State.judgeItem_order ..))

theorem State.goSilent_order (a : Nat) : s.KeepsOrder (s.goSilent a) := by
  simp only [State.goSilent]
  split
  case h_1 | h_2 => exact .unchanged (by simp) (by simp)
  all_goals exact s.qualify_order rfl ..

theorem State.scanOnce_order : s.KeepsOrder s.scanOnce := by
  obtain ⟨p, hscan⟩ := s.scanOnce_eq
  have hmoved : s.KeepsOrder { s with scan := p } := .unchanged rfl rfl
  rw [hscan]
  exact .ite (hmoved.trans (State.goSilent_order ..)) hmoved

/-! ### The ports -/

theorem State.takeItem_order (n c : Nat) (i : Item) : s.KeepsOrder (s.takeItem n c i) := by
  simp only [State.takeItem]
  split
  · exact .unchanged rfl rfl
  · split
    · exact .unchanged rfl rfl
    · exact s.processItem_order ..

theorem State.takeItems_order (n c : Nat) (is : List Item) : s.KeepsOrder (s.takeItems n c is) := by
  induction is generalizing s with
  | nil => exact .refl s
  | cons i is ih => exact (s.takeItem_order n c i).trans (ih _)

theorem State.correlateReport_order (f : Bytes) : s.KeepsOrder (s.correlateReport f) := by
  have haccepted : ∀ n q, s.KeepsOrder (s.acceptReport n q) := fun n q => .unchanged (by simp) (by simp)
  exact .ite (.ite (.unchanged rfl rfl) ((haccepted ..).trans (State.takeItems_order ..))) (.unchanged rfl rfl)

theorem State.receiveField_order (f : Bytes) : s.KeepsOrder (s.receiveField f) := by
  have hforwarded : ∀ t : State, t.KeepsOrder (t.forwardUp f) := fun t => .unchanged (by simp) (by simp)
  have hhanded : ∀ t : State, t.KeepsOrder (t.handField f) := fun t =>
    .ite ((State.KeepsOrder.ite (.refl t) (hforwarded t)).trans (State.correlateReport_order ..))
      (.ite (hforwarded t) (.unchanged rfl rfl))
  have hqualified : s.KeepsOrder ((s.countField f (judge f)).qualifyLink (judge f)) := .unchanged (by simp) (by simp)
  exact .ite (hqualified.trans (hhanded _)) hqualified

theorem State.receiveDispatch_order (f : Bytes) : s.KeepsOrder (s.receiveDispatch f) := by
  have hcounted : s.KeepsOrder (s.countDispatch f (judge f)) := .unchanged (by simp) (by simp)
  have hforwarded : ∀ t : State, t.KeepsOrder (t.forwardDown f) := fun t => .unchanged (by simp) (by simp)
  have hcommand : ∀ t : State, t.KeepsOrder (t.handCommand f) := fun t =>
    .ite (.unchanged (by simp) (by simp)) (hforwarded t)
  have hqueued : ∀ t : State, t.KeepsOrder (t.queueCommand f) := fun t => .unchanged (by simp) (by simp)
  have hhanded : ∀ t : State, t.KeepsOrder (t.handDispatch f) := fun t =>
    .ite (hcommand t) (.ite (.ite (hqueued t) (hforwarded t)) (.unchanged rfl rfl))
  exact .ite (hcounted.trans (hhanded _)) hcounted

/-! ### The agent's commands -/

theorem State.finish_order (v : ReplyStatus) (r : Bytes) : s.KeepsOrder (s.finish v r) := .unchanged (by simp) (by simp)

/-- A reply keeps the order. -/
theorem Ending.settle_order (e : Ending) : e.state.KeepsOrder e.settle := by
  cases e with
  | reply s v r => exact s.finish_order v r
  | goesOn s => exact .refl s

end

/-- A command that a test may refuse keeps the order when it does where the test passes it. -/
theorem State.KeepsOrder.unlessRefused {s : State} {v : ReplyStatus} {x : Ending} {refused : Prop} [Decidable refused]
    (h : ¬ refused → s.KeepsOrder x.state) : s.KeepsOrder (if refused then refuse s v else x).state := by
  split
  · exact .refl s
  · next hr => exact h hr

/-- A table write keeps the order when its writing does. -/
theorem State.KeepsOrder.tableWrite {s w : State} (h : s.KeepsOrder w) (es : List Bytes)
    (test : Bytes → Option ReplyStatus) : s.KeepsOrder (tableWrite s es test w).state := by
  simp only [Machine.tableWrite]
  split
  · exact .refl s
  · exact h

/-- A run of writes that leave the list and the queued jobs keeps the order. -/
theorem State.KeepsOrder.foldl {f : State → Bytes → State} (hb : ∀ s e, (f s e).board = s.board)
    (hj : ∀ s e, (f s e).sweep.jobs = s.sweep.jobs) (es : List Bytes) (s : State) : s.KeepsOrder (es.foldl f s) := by
  induction es generalizing s with
  | nil => exact .refl s
  | cons e es ih => exact (State.KeepsOrder.unchanged (hb s e) (hj s e)).trans (ih _)

section
variable (s : State)

theorem State.adjustRuns_order (u : State) : s.KeepsOrder (s.adjustRuns u) := .unchanged (by simp) (by simp)

theorem State.followUse_order (u : State) : s.KeepsOrder (s.followUse u) := .ite (.unchanged rfl rfl) (.refl s)

theorem State.beginRestart_order (full : Bool) : s.KeepsOrder (s.beginRestart full) := .emptied rfl rfl

theorem State.serviceOut_order (a : Nat) : s.KeepsOrder (s.serviceOut a) := by
  have hleft : s.KeepsOrder (s.leaveAttribution a) := .ite (.unchanged rfl rfl) (.unchanged (by simp) (by simp))
  have hout : s.KeepsOrder
      ((s.leaveAttribution a).modRecord a fun r => { r with condition := .outOfService, run := 0 }) :=
    hleft.trans (.unchanged rfl rfl)
  exact .ite (.refl s) (((hout.trans (State.endAdopt_order _ a)).trans (State.cancelReleaseIfMasking_order _ a)).trans
    (State.leaveUnlessListed_order _ a))

/-- A return to service that needs no RELEASE, or has a place for it (R24). -/
theorem State.serviceIn_order {a : Nat} (h : ¬ (0 < (s.record a).dependents ∧ s.releaseRefused a)) :
    s.KeepsOrder (s.serviceIn a) := by
  have hreleased : s.KeepsOrder (if 0 < (s.record a).dependents then s.queueRelease a else s) := by
    split
    · next hdependents => exact s.queueRelease_order (by simpa [hdependents] using h)
    · exact .refl s
  have hunknown : s.KeepsOrder ((if 0 < (s.record a).dependents then s.queueRelease a else s).modRecord a fun r =>
      { r with condition := .unknown, run := 0, severity := .none }) := hreleased.trans (.unchanged rfl rfl)
  exact hunknown.trans (State.leaveUnlessListed_order _ a)

theorem setServiceBody_order (p : Bytes) : s.KeepsOrder (setServiceBody p s).state := by
  refine .unlessRefused fun _ => .unlessRefused fun _ => .unlessRefused fun _ => ?_
  split
  · exact s.serviceOut_order _
  · exact .unlessRefused fun _ => .unlessRefused fun hplace => s.serviceIn_order hplace

theorem ackRestoredBody_order (p : Bytes) : s.KeepsOrder (ackRestoredBody p s).state := by
  refine .unlessRefused fun _ => .unlessRefused fun _ => ?_
  split
  · exact .refl s
  · exact .unlessRefused fun hplace => s.queueAck_order hplace

/-- The body of every row keeps the order. -/
theorem CommandRow.body_order (row : CommandRow) (p : Bytes) : s.KeepsOrder (row.body p s).state := by
  cases row with
  | badVector | status => exact .unlessRefused fun _ => .refl s
  | config =>
    have hconfigured : ∀ c, s.KeepsOrder (s.configure c) := fun c => .unchanged (by simp) (by simp)
    exact .unlessRefused fun _ => .unlessRefused fun _ => hconfigured _
  | timeSet => exact .unlessRefused fun _ => .unchanged rfl rfl
  | setMode =>
    refine .unlessRefused fun _ => ?_
    split
    · exact .refl s
    · exact .ite (.unchanged rfl rfl) (.unchanged rfl rfl)
  | restartClear | restartFull => exact .unlessRefused fun _ => .unlessRefused fun _ => s.beginRestart_order _
  | loadBegin => exact .unlessRefused fun _ => s.beginRestart_order true
  | loadEnd => exact .unlessRefused fun _ => .unlessRefused fun _ => .unchanged rfl rfl
  | readCountersPort | readCountersSource =>
    exact .unlessRefused fun _ => .unlessRefused fun _ => .ite (.unchanged rfl rfl) (.refl s)
  | classWrite =>
    have hput : s.KeepsOrder (s.putClass (arguments p)) := .unchanged rfl rfl
    exact .unlessRefused fun _ => .unlessRefused fun _ => (hput.trans (State.adjustRuns_order ..)).tableWrite ..
  | templateWrite =>
    have hput := State.KeepsOrder.foldl (f := State.putTemplate) (by simp) (by simp)
    exact .unlessRefused fun _ => .unlessRefused fun _ => (hput _ s).tableWrite ..
  | assetWrite =>
    have hput := State.KeepsOrder.foldl (f := State.putAsset) (by simp) (by simp)
    exact .unlessRefused fun _ => .unlessRefused fun _ => ((hput _ s).trans (State.adjustRuns_order ..)).tableWrite ..
  | trunkWrite =>
    have hput := State.KeepsOrder.foldl (f := State.putTrunk) (by simp) (by simp)
    exact .unlessRefused fun _ => .unlessRefused fun _ => ((hput _ s).trans (State.followUse_order ..)).tableWrite ..
  | queryAsset =>
    exact .unlessRefused fun _ => .unlessRefused fun _ => .unlessRefused fun _ =>
      .ite (s.clearLatch_order _) (.refl s)
  | queryList =>
    refine .unlessRefused fun _ => .unlessRefused fun _ => .unlessRefused fun _ => ?_
    split
    · exact .refl s
    · split <;> exact .refl s
  | ackFault =>
    exact .unlessRefused fun _ => .unlessRefused fun _ => .unlessRefused fun _ => .unlessRefused fun _ =>
      s.clearLatch_order _
  | ackRestored => exact ackRestoredBody_order s p
  | setServiceOut | setServiceIn => exact setServiceBody_order s p
  | stormOn | stormOff =>
    have hon : ∀ f, s.KeepsOrder (s.startStorm f) := fun f =>
      .unchanged (by simp [State.startStorm]) (by simp [State.startStorm])
    have hoff : s.KeepsOrder s.endStorm := .ite (.refl s) (.unchanged (by simp) (by simp))
    refine .unlessRefused fun _ => .unlessRefused fun _ => ?_
    split
    · exact hon _
    · exact hoff
  | escArm =>
    refine .unlessRefused fun _ => ?_
    split
    · exact .unchanged rfl rfl
    · exact .unchanged rfl rfl
    · exact .refl s
    · exact .refl s
  | escAck =>
    refine .unlessRefused fun _ => ?_
    split
    · exact .refl s
    · exact .refl s
    · exact .unlessRefused fun _ => .unchanged rfl rfl
    · exact .unlessRefused fun _ => .unchanged rfl rfl
  | flashErase => exact .unlessRefused fun _ => .unlessRefused fun _ => .unchanged rfl rfl
  | flashWrite =>
    exact .unlessRefused fun _ => .unlessRefused fun _ => .unlessRefused fun _ => .unlessRefused fun _ =>
      .unchanged rfl rfl

/-- The step of every row keeps the order. -/
theorem State.runRow_order (row : CommandRow) : s.KeepsOrder (s.runRow row row.body) := by
  rcases s.runRow_cases row row.body with he | ⟨p, -, -, he⟩ <;> rw [he]
  · exact .refl s
  · exact (row.body_order s p).trans (Ending.settle_order _)

theorem State.replayStep_order : s.KeepsOrder s.replayStep := by
  have hended : s.KeepsOrder s.endReplay := .unchanged (by simp) (by simp)
  have hfailed : ∀ k, s.KeepsOrder (s.failReplay k) := fun k => .unchanged (by simp) (by simp)
  have hran : ∀ o n f, s.KeepsOrder (s.replayCommand o n f) := by
    intro o n f
    rw [State.replayCommand, runCommand_eq]
    have hreplaying : s.KeepsOrder
      { s with agent.state := .replaying (o + f.length) n (some (framePayload f)) } := .unchanged rfl rfl
    exact (hreplaying.trans (CommandRow.body_order ..)).trans (Ending.settle_order _)
  simp only [State.replayStep]
  split
  · exact .ite (hfailed _) (.ite (.ite hended (hfailed _)) (.ite (hfailed _) (.ite (hfailed _) (hran ..))))
  all_goals exact .refl s

/-! ### The steps -/

theorem State.loseLine_order : s.KeepsOrder s.loseLine := by
  simp only [State.loseLine]
  split
  · exact .unchanged (by simp) (by simp)
  · exact .unchanged rfl rfl
  · exact .refl s

theorem State.regainLine_order : s.KeepsOrder s.regainLine := by
  simp only [State.regainLine]
  split
  · exact .ite (.unchanged rfl rfl) (.unchanged (by simp) (by simp))
  all_goals exact .refl s

theorem State.clearingDone_order : s.KeepsOrder s.clearingDone := by
  have hended : ∀ toReady, s.KeepsOrder (s.endRestart toReady) := fun toReady =>
    .ite (.unchanged rfl rfl) (.unchanged rfl rfl)
  simp only [State.clearingDone]
  split
  · exact (hended _).trans (State.finish_order ..)
  all_goals exact .refl s

theorem State.validationDone_order : s.KeepsOrder s.validationDone := by
  have hserved : ∀ n, s.KeepsOrder (s.enterService n) := fun n => by
    obtain ⟨table, htable⟩ := State.startSources_eq (State.resume
      { s with tables.assetCount := n, correlator.state := .ready, agent.long := none })
    rw [State.enterService, htable]
    exact .unchanged rfl rfl
  have hback : s.KeepsOrder s.backToLoading := .unchanged rfl rfl
  simp only [State.validationDone, State.endValidation]
  split
  · split
    · exact (hserved _).trans (State.finish_order ..)
    · exact hback.trans (State.finish_order ..)
  all_goals exact .refl s

theorem State.eraseStep_order : s.KeepsOrder s.eraseStep := by
  simp only [State.eraseStep]
  split
  · exact .ite (.unchanged rfl rfl) (.unchanged (by simp) (by simp))
  all_goals exact .refl s

theorem State.writeDone_order : s.KeepsOrder s.writeDone := by
  simp only [State.writeDone]
  split
  · exact .unchanged (by simp) (by simp)
  all_goals exact .refl s

end

/-- Every command keeps the order. -/
theorem exec_order (c : Instr) (s : State) : ∃ t, exec c s = .next t ∧ s.KeepsOrder t := by
  cases c with
  | resetAssert => exact ⟨_, rfl, .unchanged rfl rfl⟩
  | powerOnResetRelease => exact ⟨_, rfl, .emptied rfl rfl⟩
  | initEnd => exact ⟨_, rfl, .ite (.emptied (by simp [State.endInit]) (by simp [State.endInit])) (.refl s)⟩
  | timeBaseAdvance => exact ⟨_, rfl, .ite (.refl s) (.ite (.unchanged rfl rfl) (.refl s))⟩
  | linkWatchdogExpiry => exact ⟨_, rfl, .ite (.unchanged (by simp) (by simp)) (.refl s)⟩
  | sourceSilent n => exact ⟨_, rfl, .ite (.unchanged (by simp) (by simp)) (.refl s)⟩
  | lineSignalLoss =>
    have hlost : s.KeepsOrder { s with fport.lineSignal := false } := .unchanged rfl rfl
    exact ⟨_, rfl, .ite (hlost.trans (State.loseLine_order _)) hlost⟩
  | lineSignalReturn =>
    have hback : s.KeepsOrder { s with fport.lineSignal := true } := .unchanged rfl rfl
    exact ⟨_, rfl, .ite (hback.trans (State.regainLine_order _)) hback⟩
  | fPortFrameReceived frame => exact ⟨_, rfl, .ite (s.receiveField_order _) (.refl s)⟩
  | dPortFrameReceived frame => exact ⟨_, rfl, .ite (s.receiveDispatch_order _) (.refl s)⟩
  | fPortFrameSent =>
    exact ⟨_, rfl, .ite (.unchanged (by simp [State.finishDown]) (by simp [State.finishDown])) (.refl s)⟩
  | dPortFrameSent => exact ⟨_, rfl, .ite (.unchanged (by simp) (by simp)) (.refl s)⟩
  | scannerVisit => exact ⟨_, rfl, .ite s.scanOnce_order (.refl s)⟩
  | sweepStep => exact ⟨_, rfl, .ite (.refl s) s.sweepOnce_order⟩
  | bootReplayFrame => exact ⟨_, rfl, .ite (.refl s) s.replayStep_order⟩
  | clearingEnd => exact ⟨_, rfl, .ite (.refl s) s.clearingDone_order⟩
  | validationEnd => exact ⟨_, rfl, .ite (.refl s) s.validationDone_order⟩
  | flashEraseBlock => exact ⟨_, rfl, .ite (.refl s) s.eraseStep_order⟩
  | flashWriteEnd => exact ⟨_, rfl, .ite (.refl s) s.writeDone_order⟩
  | mgmtBadVector | status | config | timeSet | setMode | restartClear | restartFull | readCountersPort
  | readCountersSource | loadBegin | loadEnd | classWrite | templateWrite | assetWrite | trunkWrite | queryAsset
  | queryList | ackFault | ackRestored | setServiceOut | setServiceIn | stormOn | stormOff | escArm | escAck
  | flashErase | flashWrite => exact ⟨_, rfl, s.runRow_order _⟩

/-- Settles O56: the step's command keeps the order. -/
theorem everyStepKeepsTheSweepQueue : Obligations.EveryStepKeepsTheSweepQueue := by
  unfold Obligations.EveryStepKeepsTheSweepQueue
  intro s t hs hstep
  simp only [step] at hstep
  split at hstep
  · exact Host.Outcome.next.inj hstep ▸ hs
  · next c rest _ =>
    obtain ⟨u, hexec, hkeeps⟩ := exec_order c { s with pending := rest }
    obtain rfl := Host.Outcome.next.inj (hexec.symm.trans hstep)
    exact hkeeps.ordered (hs.of_eq rfl rfl)

/-! ## Cause and dependents, changed as a pair -/

/-- In canonical memory an attribution writes the two records of R45, and no other. -/
theorem State.attribute_eq {s : State} (w : Table.wf clearRecord s.correlator.records) {e root : Nat} (hne : e ≠ root) :
    ∃ records, Table.wf clearRecord records ∧ s.attribute e root = { s with correlator.records := records } ∧
      tableGet clearRecord records e = { s.record e with cause := some root } ∧
      tableGet clearRecord records root = { s.record root with dependents := (s.record root).dependents + 1 } ∧
      ∀ x, x ≠ e → x ≠ root → tableGet clearRecord records x = s.record x := by
  have w' := tableSet_wf w e { s.record e with cause := some root }
  have hroot : (s.modRecord e fun r => { r with cause := some root }).record root = s.record root :=
    s.record_setRecord_ne _ hne.symm
  refine ⟨_, tableSet_wf w' root _, rfl, ?_, ?_, fun x hxe hxr => ?_⟩
  · rw [tableGet_tableSet w', if_neg hne, tableGet_tableSet_self w]
  · rw [tableGet_tableSet_self w', hroot]
  · rw [tableGet_tableSet w', if_neg hxr, tableGet_tableSet_ne _ _ _ hxe, State.record]

/-- In canonical memory the loss of a cause writes the two records of R45, and no other. -/
theorem State.unattribute_eq {s : State} (w : Table.wf clearRecord s.correlator.records) {e root : Nat} (hne : e ≠ root)
    (hcause : (s.record e).cause = some root) :
    ∃ records, Table.wf clearRecord records ∧ s.unattribute e = { s with correlator.records := records } ∧
      tableGet clearRecord records e = { s.record e with cause := none } ∧
      tableGet clearRecord records root = { s.record root with dependents := (s.record root).dependents - 1 } ∧
      ∀ x, x ≠ e → x ≠ root → tableGet clearRecord records x = s.record x := by
  have w' := tableSet_wf w e { s.record e with cause := none }
  have hroot : (s.modRecord e fun r => { r with cause := none }).record root = s.record root :=
    s.record_setRecord_ne _ hne.symm
  have hfreed : s.unattribute e = (s.modRecord e fun r => { r with cause := none }).modRecord root
      fun r => { r with dependents := r.dependents - 1 } := by simp [State.unattribute, hcause]
  refine ⟨_, tableSet_wf w' root _, hfreed, ?_, ?_, fun x hxe hxr => ?_⟩
  · rw [tableGet_tableSet w', if_neg hne, tableGet_tableSet_self w]
  · rw [tableGet_tableSet_self w', hroot]
  · rw [tableGet_tableSet w', if_neg hxr, tableGet_tableSet_ne _ _ _ hxe, State.record]

/-! ## An adoption -/

/-- The entries that a withdrawal takes are those of the asset in the two families (R106). -/
theorem State.withdraw_eq (s : State) (a : Nat) : s.withdraw a = { s with
    notices.entries := s.notices.entries.filter fun n =>
      !(decide (n.subject = .asset a) &&
        (decide (n.kind.family = .condition) || decide (n.kind.family = .flap))) } := by
  simp only [State.withdraw, Notice.isFor, Bool.and_or_distrib_left]

/-- The tally of a running job rises by one (R59). -/
theorem State.raiseTally_cons {s : State} {j : SweepJob} {rest : List SweepJob} (h : s.sweep.jobs = j :: rest) :
    s.raiseTally = { s with sweep.jobs := { j with tally := j.tally + 1 } :: rest } := by
  simp [State.raiseTally, h]

/-- Settles O46: the attribution writes two records, and the latch one of them again. -/
theorem adoptionAttributesTheEntry : Obligations.AdoptionAttributesTheEntry := by
  unfold Obligations.AdoptionAttributesTheEntry
  intro s root e j rest hjobs hne hcanonical
  obtain ⟨records, w, hattribute, he, hroot, hothers⟩ := State.attribute_eq hcanonical.records hne
  refine ⟨tableSet clearRecord records e { tableGet clearRecord records e with latch := .clear }, ?_, ?_, ?_,
    fun x hxe hxr => ?_⟩
  · rw [State.adopt, hattribute, State.withdraw_eq, State.raiseTally_cons (by exact hjobs)]
    rfl
  · rw [tableGet_tableSet_self w, he]
  · rw [tableGet_tableSet_ne _ _ _ hne.symm, hroot]
  · rw [tableGet_tableSet_ne _ _ _ hxe, hothers x hxe hxr]

/-! ## One step of a walk -/

/-- Out of reset SWEEP_STEP is one step of the running job. -/
theorem exec_sweepStep {s : State} (h : s.inReset = false) : exec .sweepStep s = .next s.sweepOnce := by
  simp [exec, execSweepStep, h]

/-- The walk of a running job moves to `next` (R55). -/
theorem State.moveWalk_cons {s : State} {j : SweepJob} {rest : List SweepJob} (h : s.sweep.jobs = j :: rest)
    (next : Option Nat) : s.moveWalk next = { s with sweep.jobs := { j with position := next } :: rest } := by
  simp [State.moveWalk, h]

/-- The ancestor walk reads the records and the loaded tables alone. -/
theorem ancestorWithin_congr {s t : State} (hr : t.correlator.records = s.correlator.records)
    (ht : t.tables = s.tables) (x : Option Nat) (links a : Nat) :
    ancestorWithin t x links a = ancestorWithin s x links a := by
  have hmasking : ∀ p, t.maskingFaulted p = s.maskingFaulted p := fun p => by
    simp only [State.maskingFaulted, State.classOf_congr ht, State.record_congr hr]
  induction links generalizing a with
  | zero => rfl
  | succ links ih => simp only [ancestorWithin, State.asset_congr ht, hmasking, ih]

/-- The tests of an ADOPT visit in the words of R58. -/
theorem State.adoptable_iff (s : State) (root e : Nat) : s.adoptable root e = true ↔
    e ≠ root ∧ (s.record e).faulted = true ∧ (s.record e).cause = none ∧
      (s.record root).qualifiedAt.getD 0 - (s.classOf root).adoptionWindow ≤ (s.record e).qualifiedAt.getD 0 ∧
      s.ancestor e = some root := by
  simp [State.adoptable, FaultRecord.independent, timeMinus, and_assoc]

/-- The tests of an ACK visit in the words of R68. -/
theorem State.ackVisit_eq (s : State) (zone : Option Nat) (e : Nat) : s.ackVisit zone e =
    if (s.record e).faulted = false ∧ (s.record e).latch = .held ∧
      ∀ z, zone = some z → (s.zoneLookup (s.asset e).address).1 = z then s.clearLatch e else s := by
  have hzone : s.zonePasses zone e = true ↔ ∀ z, zone = some z → (s.zoneLookup (s.asset e).address).1 = z := by
    cases zone <;> simp [State.zonePasses]
  simp only [State.ackVisit, Bool.and_eq_true, Bool.not_eq_true', decide_eq_true_eq, hzone, and_assoc]

/-- A RELEASE visit passes an entry by that is no dependent of the root (R64). -/
theorem State.releaseVisit_other {s : State} {root e : Nat} (h : (s.record e).cause ≠ some root) :
    s.releaseVisit root e = s := if_neg h

/-- A RELEASE visit re-attributes a dependent that has another ancestor (R64). -/
theorem State.releaseVisit_ancestor {s : State} {root e b : Nat} (h : (s.record e).cause = some root)
    (hb : s.ancestorExcluding root e = some b) : s.releaseVisit root e = (s.unattribute e).attribute e b := by
  simp [State.releaseVisit, h, hb]

/-- A RELEASE visit unmasks a dependent that has no other ancestor (R64). -/
theorem State.releaseVisit_unmask {s : State} {root e : Nat} (h : (s.record e).cause = some root)
    (hb : s.ancestorExcluding root e = none) : s.releaseVisit root e = s.unmask e := by
  simp [State.releaseVisit, h, hb]

section
variable {s : State} {j : SweepJob} {rest : List SweepJob} (hjobs : s.sweep.jobs = j :: rest)
include hjobs

/-- A RELEASE whose root has no dependents ends (R63). -/
theorem State.sweepOnce_released {root : Nat} (hw : j.walk = .release root) (h : (s.record root).dependents = 0) :
    s.sweepOnce = s.removeJob (.release root) := by
  simp [State.sweepOnce, hjobs, State.releaseDone, hw, h]

/-- Any other job past the tail ends (R53). -/
theorem State.sweepOnce_tail (h : s.releaseDone j.walk = false) (hp : j.position = none) :
    s.sweepOnce = s.endWalk j.walk := by
  simp [State.sweepOnce, hjobs, h, hp]

/-- Any other job visits the entry at its position (R53). -/
theorem State.sweepOnce_visit (h : s.releaseDone j.walk = false) {e : Nat} (hp : j.position = some e) :
    s.sweepOnce = s.visit j.walk e := by
  simp [State.sweepOnce, hjobs, h, hp]

/-- A job past the tail ends, whatever its walk (R53, R60, R63, R69). -/
theorem State.sweepOnce_ends (hp : j.position = none) : s.sweepOnce = s.endWalk j.walk := by
  by_cases h : s.releaseDone j.walk = true
  · cases hw : j.walk with
    | release root => exact State.sweepOnce_released hjobs hw (by simpa [State.releaseDone, hw] using h)
    | adopt | ack => simp [State.releaseDone, hw] at h
  · exact State.sweepOnce_tail hjobs (Bool.eq_false_iff.mpr h) hp

end

/-- An unmasked entry loses its cause and is HELD, its root has a dependent less, and it is told of (R65). -/
theorem State.unmask_eq {s : State} (w : Table.wf clearRecord s.correlator.records) {e root : Nat} (hne : e ≠ root)
    (hcause : (s.record e).cause = some root) : ∃ records : Table FaultRecord,
    s.unmask e = ({ s with
      correlator.records := records
      correlator.independentCount := s.correlator.independentCount + 1 }).requestAsset
        .unmasked e (s.record e).condition (s.record e).severity none (s.record e).dependents ∧
    tableGet clearRecord records e = { s.record e with cause := none, latch := .held } ∧
    tableGet clearRecord records root = { s.record root with dependents := (s.record root).dependents - 1 } ∧
    ∀ x, x ≠ e → x ≠ root → tableGet clearRecord records x = s.record x := by
  obtain ⟨records, w', hfreed, he, hroot, hothers⟩ := State.unattribute_eq w hne hcause
  set unmasked := tableSet clearRecord records e { tableGet clearRecord records e with latch := .held } with hunmasked
  have hself : tableGet clearRecord unmasked e = { s.record e with cause := none, latch := .held } := by
    rw [hunmasked, tableGet_tableSet_self w', he]
  refine ⟨unmasked, ?_, hself, ?_, fun x hxe hxr => ?_⟩
  · let t : State := { s with
      correlator.records := unmasked, correlator.independentCount := s.correlator.independentCount + 1 }
    have hrecord : t.record e = { s.record e with cause := none, latch := .held } := hself
    have hunmask : s.unmask e = t.requestFromRecord .unmasked e (t.record e).dependents := by
      rw [State.unmask, hfreed]
      rfl
    rw [hunmask, State.requestFromRecord, hrecord]
  · rw [hunmasked, tableGet_tableSet_ne _ _ _ hne.symm, hroot]
  · rw [hunmasked, tableGet_tableSet_ne _ _ _ hxe, hothers x hxe hxr]

/-- A re-attributed entry changes its cause, and the two roots their dependents (R64). -/
theorem State.reattribute_eq {s : State} (w : Table.wf clearRecord s.correlator.records) {e root b : Nat}
    (hne : e ≠ root) (hcause : (s.record e).cause = some root) (hbe : b ≠ e) (hbr : b ≠ root) :
    ∃ records : Table FaultRecord,
    (s.unattribute e).attribute e b = { s with correlator.records := records } ∧
    tableGet clearRecord records e = { s.record e with cause := some b } ∧
    tableGet clearRecord records root = { s.record root with dependents := (s.record root).dependents - 1 } ∧
    tableGet clearRecord records b = { s.record b with dependents := (s.record b).dependents + 1 } ∧
    ∀ x, x ≠ e → x ≠ root → x ≠ b → tableGet clearRecord records x = s.record x := by
  obtain ⟨freed, w', hfreed, he, hroot, hothers⟩ := State.unattribute_eq w hne hcause
  let t : State := { s with correlator.records := freed }
  obtain ⟨records, -, hattribute, he', hb', hothers'⟩ := State.attribute_eq (s := t) w' hbe.symm
  have hrecord : ∀ x, t.record x = tableGet clearRecord freed x := fun _ => rfl
  refine ⟨records, ?_, ?_, ?_, ?_, fun x hxe hxr hxb => ?_⟩
  · rw [hfreed, hattribute]
  · rw [he', hrecord, he]
  · rw [hothers' root hne.symm hbr.symm, hrecord, hroot]
  · rw [hb', hrecord, hothers b hbe hbr]
  · rw [hothers' x hxe hxb, hrecord, hothers x hxe hxr]

/-- Settles O19: the running job by its walk and position, and the two outcomes of a RELEASE visit. -/
theorem sweepStepTakesTheFirstThatApplies : Obligations.SweepStepTakesTheFirstThatApplies := by
  unfold Obligations.SweepStepTakesTheFirstThatApplies
  refine ⟨fun s j rest hreset hjobs => ?_, fun s e root hcanonical hcause hne => ?_⟩
  · rw [exec_sweepStep hreset]
    refine ⟨fun root hw hzero => ?_, fun hp => ?_, fun e hp => ?_⟩
    · rw [State.sweepOnce_released hjobs hw hzero]
    · rw [State.sweepOnce_ends hjobs hp]
      refine ⟨fun root hw => ?_, fun zone hw => ?_, fun root hw => ?_⟩ <;> rw [hw] <;> rfl
    · intro moved r
      have hvisit : s.releaseDone j.walk = false → s.sweepOnce = s.visit j.walk e := fun h =>
        State.sweepOnce_visit hjobs h hp
      have hmoved : s.moveWalk (s.successor e) = moved := State.moveWalk_cons hjobs _
      have hancestor : ∀ x links a, ancestorWithin moved x links a = ancestorWithin s x links a :=
        ancestorWithin_congr rfl rfl
      refine ⟨fun root hw => ?_, fun root hw hdependents => ?_, fun zone hw => ?_⟩
      · intro passes
        have htest : moved.adoptable root e = true ↔ passes := by
          rw [moved.adoptable_iff, State.ancestor, hancestor]
          rfl
        have hstep : s.sweepOnce = moved.adoptVisit root e := by
          rw [hvisit (by rw [hw]; rfl), hw, State.visit, hmoved]
        rw [hstep, State.adoptVisit]
        exact ⟨fun hyes => by rw [if_pos (htest.mpr hyes)], fun hno => by rw [if_neg (mt htest.mp hno)]⟩
      · have hstep : s.sweepOnce = moved.releaseVisit root e := by
          rw [hvisit (by simp [hw, State.releaseDone, hdependents]), hw, State.visit, hmoved]
        have hexcluding : moved.ancestorExcluding root e = s.ancestorExcluding root e := hancestor ..
        rw [hstep, ← hexcluding]
        exact ⟨fun hother => congrArg _ (State.releaseVisit_other (s := moved) hother),
          fun b hdependent hb => congrArg _ (State.releaseVisit_ancestor (s := moved) hdependent hb),
          fun hdependent hb => congrArg _ (State.releaseVisit_unmask (s := moved) hdependent hb)⟩
      · intro passes
        have hstep : s.sweepOnce = moved.ackVisit zone e := by
          rw [hvisit (by rw [hw]; rfl), hw, State.visit, hmoved]
        rw [hstep, moved.ackVisit_eq]
        exact ⟨fun hyes => by rw [if_pos (by exact hyes)], fun hno => by rw [if_neg (by exact hno)]⟩
  · intro r freed
    exact ⟨State.unmask_eq hcanonical.records hne hcause, fun b hbe hbr =>
      State.reattribute_eq hcanonical.records hne hcause hbe hbr⟩

/-! ## ACK RESTORED -/

/-- A payload of vector 19 is ACK RESTORED's. -/
theorem commandRow_ackRestored (tag : Byte) (args : Bytes) : commandRow (19#8 :: tag :: args) = .ackRestored := by
  simp [commandRow, byteAt]

/-- The filters in range: all zones, and one zone of the sixteen (R176). -/
theorem ackFilterOf_inRange {filter zone : Byte} (hf : filter.toNat ≤ 1) (hz : filter = 1#8 → zone.toNat ≤ 15) :
    ackFilterOf filter.toNat zone.toNat = some (if filter = 1#8 then some zone.toNat else none) := by
  by_cases h : filter = 1#8
  · simp [ackFilterOf, h, hz h]
  · have hzero : filter.toNat = 0 := by
      have hne : filter.toNat ≠ 1 := fun he => h (BitVec.eq_of_toNat_eq he)
      omega
    simp [ackFilterOf, h, hzero]

/-- The filters out of range (R176). -/
theorem ackFilterOf_outOfRange {filter zone : Byte} (h : 1 < filter.toNat ∨ filter = 1#8 ∧ 15 < zone.toNat) :
    ackFilterOf filter.toNat zone.toNat = none := by
  rcases h with hf | ⟨rfl, hz⟩
  · rw [ackFilterOf, if_neg (by omega), if_neg (by omega)]
  · simp [ackFilterOf, hz]

/-- ACK RESTORED that the agent executes is the body on its payload. -/
theorem exec_ackRestored {s : State} {tag : Byte} {args : Bytes} (h : s.executes (19#8 :: tag :: args)) :
    exec .ackRestored s = .next (ackRestoredBody (19#8 :: tag :: args) s).settle := by
  rw [← State.runRow_executes h (commandRow_ackRestored tag args)]
  rfl

section
variable {s : State} (hready : s.correlator.state = .ready) (tag : Byte) {filter zone : Byte}
include hready

/-- A filter out of range is refused RANGE (R78, R175). -/
theorem ackRestoredBody_outOfRange (h : ackFilterOf filter.toNat zone.toNat = none) :
    ackRestoredBody [19#8, tag, filter, zone] s = refuse s .range := by
  simp [ackRestoredBody, argumentLength, arguments, byteAt, State.ready, hready, h]

/-- A filter in range is refused BUSY by a full queue with no ACK job, and taken otherwise (R78). -/
theorem ackRestoredBody_inRange {asked : Option Nat} (h : ackFilterOf filter.toNat zone.toNat = some asked) :
    ackRestoredBody [19#8, tag, filter, zone] s =
      if s.hasAck = false ∧ s.sweepFull = true then refuse s .busy else done (s.queueAck asked) := by
  simp [ackRestoredBody, argumentLength, arguments, byteAt, State.ready, hready, h]

end

/-- A job that joins an empty queue starts at the head of the list (R53). -/
theorem State.joinJob_empty {s : State} (h : s.sweep.jobs = []) (w : Walk) :
    s.joinJob w = { s with sweep.jobs := [⟨w, .running, s.board.head?, 0⟩] } := by
  simp [State.joinJob, h, State.startFirst, waitingJob]

/-- A job that joins behind a running one waits (R53). -/
theorem State.joinJob_behind {s : State} {j : SweepJob} (h : s.sweep.jobs.head? = some j) (hj : j.state = .running)
    (w : Walk) : s.joinJob w = { s with sweep.jobs := s.sweep.jobs ++ [⟨w, .waiting, none, 0⟩] } := by
  obtain ⟨rest, hjobs⟩ := List.head?_eq_some_iff.mp h
  simp [State.joinJob, hjobs, State.startFirst, waitingJob, hj]

/-- Settles O36: the filter, then the ACK job or the place in the queue. -/
theorem ackRestoredQueuesOrMerges : Obligations.AckRestoredQueuesOrMerges := by
  unfold Obligations.AckRestoredQueuesOrMerges
  refine ⟨fun s tag filter zone he hready hf hz => ?_, fun s tag filter zone he hready h => ?_⟩
  · intro p asked running waiting hasAck merge
    obtain ⟨-, -, hstate⟩ := id he
    have hack : s.hasAck = true ↔ hasAck := by
      simp only [s.hasAck_iff, State.walks, List.mem_map, hasAck]
      exact ⟨fun ⟨z, j, hj, hw⟩ => ⟨j, hj, z, hw⟩, fun ⟨j, hj, z, hw⟩ => ⟨z, j, hj, hw⟩⟩
    have hfull : s.sweepFull = true ↔ 8 ≤ s.sweep.jobs.length := by simpa [State.walks] using s.sweepFull_iff
    have hmerge : (fun j : SweepJob => j.mergeAck asked s.board.head?) = merge := by
      funext ⟨walk, state, position, tally⟩
      cases walk <;> rfl
    have hrun := exec_ackRestored he
    rw [ackRestoredBody_inRange hready tag (ackFilterOf_inRange hf hz)] at hrun
    have htaken : ¬ (s.hasAck = false ∧ s.sweepFull = true) →
        exec .ackRestored s = .next ((s.queueAck asked).answered p .done []) := by
      intro hplace
      have hqueued : (s.queueAck asked).agent.state = .executing p := by simpa using hstate
      rw [hrun, if_neg hplace, done_settle hqueued]
    have hjoined : ¬ hasAck → s.queueAck asked = s.joinJob (.ack asked) := fun hno => if_neg (mt hack.mp hno)
    refine ⟨fun hyes => ?_, fun hno hlong => ?_, fun hnil => ?_, fun hno hroom => ?_⟩
    · rw [htaken (by simp [hack.mpr hyes]), State.queueAck, if_pos (hack.mpr hyes), hmerge]
    · rw [hrun, if_pos ⟨Bool.eq_false_iff.mpr (mt hack.mp hno), hfull.mpr hlong⟩, refuse_settle hstate]
    · rw [htaken (by simp [hfull, hnil]), hjoined (by simp [hasAck, hnil]), State.joinJob_empty hnil]
    · rintro ⟨j, hhead, hrunning⟩
      rw [htaken (by simp [hfull, hroom]), hjoined hno, State.joinJob_behind hhead hrunning]
  · obtain ⟨-, -, hstate⟩ := id he
    rw [exec_ackRestored he, ackRestoredBody_outOfRange hready tag (ackFilterOf_outOfRange h), refuse_settle hstate]

end Sys2Proof.Machine

namespace Sys2Proof.Machine

/-! ## QUERY LIST -/

/-- A payload of vector 17 is QUERY LIST's. -/
theorem commandRow_queryList (tag : Byte) (args : Bytes) : commandRow (17#8 :: tag :: args) = .queryList := by
  simp [commandRow, byteAt]

/-- QUERY LIST that the agent executes is the body on its payload. -/
theorem exec_queryList {s : State} {tag : Byte} {args : Bytes} (h : s.executes (17#8 :: tag :: args)) :
    exec .queryList s = .next (queryListBody (17#8 :: tag :: args) s).settle := by
  rw [← State.runRow_executes h (commandRow_queryList tag args)]
  rfl

/-- Two bytes that begin an argument list read high byte first. -/
theorem numAt_two (a b : Byte) (rest : Bytes) : numAt (a :: b :: rest) 0 2 = a.toNat * 256 + b.toNat := by
  simp [numAt, bigEndian]

/-- A held latch is coded 1 and a clear one 0 (R174). -/
theorem latchCode_eq (l : Latch) : latchCode l = if l = .held then 1 else 0 := by cases l <;> rfl

/-- After an entry come the entries behind its first place (R81). -/
theorem entriesAfter_of_first {before after : List Nat} {c : Nat} (h : c ∉ before) :
    entriesAfter (before ++ c :: after) c = some after := by
  induction before with
  | nil => simp [entriesAfter]
  | cons x before ih =>
    obtain ⟨hne, hrest⟩ := not_or.mp (mt List.mem_cons.mpr h)
    rw [List.cons_append, entriesAfter, if_neg (Ne.symm hne), ih hrest]

/-- Nothing comes after a cursor off the list (R81). -/
theorem entriesAfter_of_notMem {l : List Nat} {c : Nat} (h : c ∉ l) : entriesAfter l c = none := by
  induction l with
  | nil => rfl
  | cons x l ih =>
    obtain ⟨hne, hrest⟩ := not_or.mp (mt List.mem_cons.mpr h)
    rw [entriesAfter, if_neg (Ne.symm hne), ih hrest]

/-- Cursor 65535 is HEAD (R176). -/
@[simp] theorem optionalIndex_head : optionalIndex 65535 = none := rfl

/-- Any other cursor names its asset (R176). -/
theorem optionalIndex_of_ne {n : Nat} (h : n ≠ 65535) : optionalIndex n = some n := if_neg h

/-- The filter that a filter byte in range and a zone byte name (R82). -/
def namedFilter (filter zone : Byte) : ListFilter :=
  if filter = 0#8 then .all else if filter = 1#8 then .independent else .zone zone.toNat

/-- The filters in range: all, independent, and one zone of the sixteen (R176). -/
theorem listFilterOf_inRange {filter zone : Byte} (hf : filter.toNat ≤ 2) (hz : filter = 2#8 → zone.toNat ≤ 15) :
    listFilterOf filter.toNat zone.toNat = some (namedFilter filter zone) := by
  obtain rfl | rfl | rfl : filter = 0#8 ∨ filter = 1#8 ∨ filter = 2#8 := by bv_omega
  · rfl
  · rfl
  · simp [listFilterOf, namedFilter, hz rfl]

/-- The filters out of range (R176). -/
theorem listFilterOf_outOfRange {filter zone : Byte} (h : 2 < filter.toNat ∨ filter = 2#8 ∧ 15 < zone.toNat) :
    listFilterOf filter.toNat zone.toNat = none := by
  rcases h with hf | ⟨rfl, hz⟩
  · rw [listFilterOf, if_neg (by omega), if_neg (by omega), if_neg (by omega)]
  · simp [listFilterOf, hz]

/-- What passes a named filter (R82). -/
theorem State.passesFilter_named (s : State) (filter zone : Byte) (a : Nat) :
    s.passesFilter (namedFilter filter zone) a =
      if filter = 0#8 then true else if filter = 1#8 then (s.record a).independent
      else decide ((s.zoneLookup (s.asset a).address).1 = zone.toNat) := by
  rw [namedFilter]
  split
  · rfl
  · split <;> rfl

section
variable {s : State} (hready : s.correlator.state = .ready) (tag : Byte) {c1 c2 count filter zone : Byte}
include hready

/-- QUERY LIST in READY tests its cursor and count, then its filter, then the cursor's place on the list (R80, R81,
R175). -/
theorem queryListBody_ready : queryListBody [17#8, tag, c1, c2, count, filter, zone] s =
    if s.cursorInRange (optionalIndex (c1.toNat * 256 + c2.toNat)) = false ∨ count.toNat < 1 ∨ 13 < count.toNat then
      refuse s .range
    else (listFilterOf filter.toNat zone.toNat).elim (refuse s .range) fun f =>
      (s.considered (optionalIndex (c1.toNat * 256 + c2.toNat))).elim (.reply s .cursorLost [0#8, 0#8])
        fun es => .reply s .done (s.listResults f count.toNat es) := by
  simp only [queryListBody, argumentLength, arguments, List.drop_succ_cons, List.drop_zero, numAt_two, byteAt,
    List.getD_cons_succ, List.getD_cons_zero, Bool.not_eq_true']
  rw [if_neg (by simp), if_neg (by simp [State.ready, hready])]
  cases listFilterOf filter.toNat zone.toNat with
  | none => rfl
  | some f => cases s.considered (optionalIndex (c1.toNat * 256 + c2.toNat)) <;> rfl

/-- A cursor, count or filter out of range is refused RANGE (R175). -/
theorem queryListBody_outOfRange
    (h : s.cursorInRange (optionalIndex (c1.toNat * 256 + c2.toNat)) = false ∨ count.toNat < 1 ∨ 13 < count.toNat ∨
      listFilterOf filter.toNat zone.toNat = none) :
    queryListBody [17#8, tag, c1, c2, count, filter, zone] s = refuse s .range := by
  rw [queryListBody_ready hready]
  split
  · rfl
  · have hnone : listFilterOf filter.toNat zone.toNat = none := by tauto
    rw [hnone, Option.elim_none]

/-- With its arguments in range QUERY LIST answers CURSOR_LOST or the results over the entries it considers (R81 to
R84). -/
theorem queryListBody_inRange {f : ListFilter}
    (hcursor : s.cursorInRange (optionalIndex (c1.toNat * 256 + c2.toNat)) = true)
    (hlow : 1 ≤ count.toNat) (hhigh : count.toNat ≤ 13) (hfilter : listFilterOf filter.toNat zone.toNat = some f) :
    queryListBody [17#8, tag, c1, c2, count, filter, zone] s =
      (s.considered (optionalIndex (c1.toNat * 256 + c2.toNat))).elim (.reply s .cursorLost [0#8, 0#8])
        fun es => .reply s .done (s.listResults f count.toNat es) := by
  rw [queryListBody_ready hready, if_neg (by simp [hcursor]; omega), hfilter, Option.elim_some]

end

/-- Settles O34: the cursor's place on the list, the ranges, and the fields of an entry. -/
theorem queryListReturnsOnePage : Obligations.QueryListReturnsOnePage := by
  unfold Obligations.QueryListReturnsOnePage
  refine ⟨fun s tag c1 c2 count filter zone he hready hlow hhigh hf hz => ?_,
    fun s tag c1 c2 count filter zone he hready => ?_, fun s a => ?_⟩
  · intro p cursor passes page
    obtain ⟨-, -, hstate⟩ := id he
    have hpasses : (fun a => s.passesFilter (namedFilter filter zone) a) = passes :=
      funext (s.passesFilter_named filter zone)
    have hpage : s.listResults (namedFilter filter zone) count.toNat = page := by
      funext es
      simp only [State.listResults, hpasses, page, flagByte, byte1, List.flatMap_def, decide_eq_true_eq]
      split <;> rfl
    have hrun (hcursor : s.cursorInRange (optionalIndex cursor) = true) : exec .queryList s =
        .next ((s.considered (optionalIndex cursor)).elim (s.answered p .cursorLost [0#8, 0#8])
          fun es => s.answered p .done (page es)) := by
      rw [exec_queryList he, queryListBody_inRange hready tag hcursor hlow hhigh (listFilterOf_inRange hf hz), hpage]
      cases s.considered (optionalIndex cursor) <;> exact congrArg _ (Ending.settle_reply hstate _ _)
    refine ⟨fun hhead => ?_, fun hasset hne => ?_⟩
    · rw [hhead, optionalIndex_head] at hrun
      exact hrun rfl
    · rw [optionalIndex_of_ne hne] at hrun
      replace hrun := hrun (decide_eq_true hasset)
      refine ⟨fun before after hboard hfirst => ?_, fun hoff => ?_⟩
      · rw [hrun, State.considered, hboard, entriesAfter_of_first hfirst]
        rfl
      · rw [hrun, State.considered, entriesAfter_of_notMem hoff]
        rfl
  · intro cursor h
    obtain ⟨-, -, hstate⟩ := id he
    have hrange : s.cursorInRange (optionalIndex cursor) = false ∨ count.toNat < 1 ∨ 13 < count.toNat ∨
        listFilterOf filter.toNat zone.toNat = none := by
      rcases h with ⟨hne, hpast⟩ | rfl | hhigh | hfilter
      · rw [optionalIndex_of_ne hne]
        exact .inl (decide_eq_false (Nat.not_lt.mpr hpast))
      · exact .inr (.inl Nat.one_pos)
      · exact .inr (.inr (.inl hhigh))
      · exact .inr (.inr (.inr (listFilterOf_outOfRange (by tauto))))
    rw [exec_queryList he, queryListBody_outOfRange hready tag hrange, refuse_settle hstate]
  · intro one two four r
    rw [State.entryResults, latchCode_eq]
    rfl

end Sys2Proof.Machine

/-! Silence detection and what bears on it (05_silence_detection.md): the line signal and the link, the frames that end
on the F-port, the configuration set and the output lines, the mode, and the end of a load. -/

namespace Sys2Proof.Machine

/-! ## The link -/

/-- When the receivers are enabled (R163). -/
theorem State.receiving_iff (s : State) : s.receiving = true ↔ s.inReset = false ∧ s.correlator.state ≠ .init := by
  simp [State.receiving]

/-- In reset and in INIT the receivers are not enabled. -/
theorem State.not_receiving {s : State} (h : s.inReset = true ∨ s.correlator.state = .init) : ¬ s.receiving = true := by
  rcases h with h | h <;> simp [State.receiving, h]

/-- The link's entry to PASS has the effects of R150. -/
theorem State.enterPass_entered (s : State) : s.PassEntered s.enterPass :=
  ⟨_, fun hs n => tableGet_tableMap hs.sources (fun _ e => e.forgetSequence) (fun _ => rfl) n, rfl⟩

/-- The link's entry to PASS leaves an agent that is not waiting on its reply. -/
theorem State.enterPass_agent {s : State} (h : s.agent.state ≠ .replyWaiting) : s.enterPass.agent = s.agent :=
  State.arrive_agent _ h

/-- LINE_SIGNAL_LOSS moves the indication, and the link once the receivers are enabled. -/
theorem exec_lineSignalLoss (s : State) : exec .lineSignalLoss s =
    .next (if s.receiving = true then ({ s with fport.lineSignal := false } : State).loseLine
      else { s with fport.lineSignal := false }) := rfl

/-- LINE_SIGNAL_RETURN moves the indication, and the link once the receivers are enabled. -/
theorem exec_lineSignalReturn (s : State) : exec .lineSignalReturn s =
    .next (if s.receiving = true then ({ s with fport.lineSignal := true } : State).regainLine
      else { s with fport.lineSignal := true }) := rfl

theorem State.loseLine_pass {s : State} (h : s.link.state = .pass) : s.loseLine = s.leavePass .down := by
  simp [State.loseLine, h]

theorem State.loseLine_qualifying {s : State} (h : s.link.state = .qualifying) :
    s.loseLine = { s with link.state := .down, link.run := 0 } := by
  simp [State.loseLine, h]

theorem State.loseLine_down {s : State} (h : s.link.state = .down) : s.loseLine = s := by
  simp [State.loseLine, h]

theorem State.regainLine_down {s : State} (h : s.link.state = .down) : s.regainLine =
    if 0 < s.agent.config.passThreshold then { s with link.state := .qualifying, link.run := 0 } else s.enterPass := by
  simp [State.regainLine, h]

/-- A return to a link that is not DOWN moves no link. -/
theorem State.regainLine_of_ne {s : State} (h : s.link.state ≠ .down) : s.regainLine = s := by
  cases hlink : s.link.state with
  | down => exact absurd hlink h
  | qualifying => simp [State.regainLine, hlink]
  | pass => simp [State.regainLine, hlink]

/-- Settles O8: the link's answer by its state, once the receivers are enabled. -/
theorem lineSignalMovesTheLink : Obligations.LineSignalMovesTheLink := by
  unfold Obligations.LineSignalMovesTheLink
  refine ⟨fun s hreset hinit => ?_, fun s hreset hinit hdown => ?_, fun s => ⟨fun hoff => ?_, fun hoff => ?_⟩⟩
  · rw [exec_lineSignalLoss, if_pos (s.receiving_iff.mpr ⟨hreset, hinit⟩)]
    refine ⟨fun hpass => ?_, fun hqualifying => ?_, fun hdown => ?_⟩
    · rw [State.loseLine_pass (by exact hpass)]
      rfl
    · rw [State.loseLine_qualifying (by exact hqualifying)]
    · rw [State.loseLine_down (by exact hdown)]
  · rw [exec_lineSignalReturn, if_pos (s.receiving_iff.mpr ⟨hreset, hinit⟩), State.regainLine_down (by exact hdown)]
    refine ⟨fun hpos => by rw [if_pos (by exact hpos)], fun hzero => ?_⟩
    obtain ⟨forgotten, hforgotten, hpassed⟩ := ({ s with fport.lineSignal := true } : State).enterPass_entered
    refine ⟨forgotten, fun hs => hforgotten { hs with }, ?_⟩
    rw [if_neg (by exact hzero.not_gt), hpassed]
  · rw [exec_lineSignalLoss, if_neg (State.not_receiving hoff)]
  · rw [exec_lineSignalReturn]
    split
    · next hreceiving =>
      obtain ⟨hreset, hinit⟩ := s.receiving_iff.mp hreceiving
      have hup : s.link.state ≠ .down := by simpa [hreset, hinit] using hoff
      rw [State.regainLine_of_ne (by exact hup)]
    · rfl

/-! ## Frames on the F-port -/

/-- F_PORT_FRAME_RECEIVED receives a frame that began after the receivers were enabled, and no other. -/
theorem exec_fPortFrameReceived (frame : Arrival) (s : State) : exec (.fPortFrameReceived frame) s =
    .next (if s.receiving = true ∧ frame.early = false then s.receiveField frame.bytes else s) := by
  simp [exec, execFPortFrameReceived]

/-- D_PORT_FRAME_RECEIVED receives a frame that began after the receivers were enabled, and no other. -/
theorem exec_dPortFrameReceived (frame : Arrival) (s : State) : exec (.dPortFrameReceived frame) s =
    .next (if s.receiving = true ∧ frame.early = false then s.receiveDispatch frame.bytes else s) := by
  simp [exec, execDPortFrameReceived]

/-- With the receivers enabled a frame that did not begin early is received. -/
theorem exec_fPortFrameReceived_enabled {s : State} (hreset : s.inReset = false) (hinit : s.correlator.state ≠ .init)
    (f : Bytes) : exec (.fPortFrameReceived ⟨f, false⟩) s = .next (s.receiveField f) := by
  rw [exec_fPortFrameReceived, if_pos ⟨s.receiving_iff.mpr ⟨hreset, hinit⟩, rfl⟩]

/-- A frame that is not good reaches the Link Qualifier alone. -/
theorem State.receiveField_bad {s : State} {f : Bytes} (h : judge f ≠ .good) :
    s.receiveField f = (s.countField f (judge f)).qualifyLink (judge f) := by
  simp [State.receiveField, h]

/-- A good frame reaches the Link Qualifier and is then handed on. -/
theorem State.receiveField_good {s : State} {f : Bytes} (h : judge f = .good) :
    s.receiveField f = ((s.countField f .good).qualifyLink .good).handField f := by
  simp [State.receiveField, h]

section
variable {s : State} {j : Judgement}

/-- A DOWN link takes nothing from a bad frame. -/
theorem State.qualifyLink_bad_down (hj : j ≠ .good) (h : s.link.state = .down) : s.qualifyLink j = s := by
  cases j <;> simp_all [State.qualifyLink]

/-- A bad frame ends the run of a QUALIFYING link. -/
theorem State.qualifyLink_bad_qualifying (hj : j ≠ .good) (h : s.link.state = .qualifying) :
    s.qualifyLink j = { s with link.run := 0 } := by
  cases j <;> simp_all [State.qualifyLink]

/-- A PASS link takes nothing from a malformed frame, nor in LENIENT from a bad one. -/
theorem State.qualifyLink_bad_pass (hj : j ≠ .good) (h : s.link.state = .pass)
    (hkeep : j = .malformed ∨ s.agent.config.errorMode = .lenient) : s.qualifyLink j = s := by
  cases j <;> simp_all [State.qualifyLink]

/-- In STRICT a check failure takes the link out of PASS. -/
theorem State.qualifyLink_strict (h : s.link.state = .pass) (hstrict : s.agent.config.errorMode = .strict) :
    s.qualifyLink .checkFailure = s.leavePass .qualifying := by
  simp [State.qualifyLink, h, hstrict]

end

/-- A good frame raises the run of a QUALIFYING link, which passes when the run reaches N. -/
theorem State.qualifyLink_good_qualifying {s : State} (h : s.link.state = .qualifying) :
    s.qualifyLink .good = ({ s.hearGood with link.run := s.link.run + 1 } : State).passIfRun := by
  simp only [State.qualifyLink, h]

/-- The Link Qualifier takes a good frame as R147 says. -/
theorem State.qualifyLink_good (s : State) : s.GoodFrameTaken (s.qualifyLink .good) := by
  refine ⟨fun h => ?_, fun h hrun => ?_, fun h hrun => ?_⟩
  · cases hlink : s.link.state with
    | down => simp [State.qualifyLink, hlink, State.hearGood, State.now]
    | qualifying => exact absurd hlink h
    | pass => simp [State.qualifyLink, hlink, State.hearGood, State.now]
  · have hbelow : ¬ (s.link.state = .qualifying ∧ s.agent.config.passThreshold ≤ s.link.run + 1) := by omega
    rw [State.qualifyLink_good_qualifying h, State.passIfRun, if_neg (by exact hbelow)]
    rfl
  · let counted : State := { s.hearGood with link.run := s.link.run + 1 }
    obtain ⟨forgotten, hforgotten, hpassed⟩ := counted.enterPass_entered
    have hpass : s.qualifyLink .good = counted.enterPass := by
      rw [State.qualifyLink_good_qualifying h, State.passIfRun, if_pos (by exact ⟨h, hrun⟩)]
    exact ⟨forgotten, fun hs => hforgotten { hs with }, hpass.trans hpassed⟩

/-- The judgement of a bad frame is counted, and its bytes are kept. -/
theorem State.countField_bad (s : State) {f : Bytes} {j : Judgement} (h : j ≠ .good) : s.countField f j =
    if j = .checkFailure then
      { s with
        fport.receive := f.take 247
        fport.counters.checkFailures := min 65535 (s.fport.counters.checkFailures + 1) }
    else
      { s with
        fport.receive := f.take 247
        fport.counters.malformed := min 65535 (s.fport.counters.malformed + 1) } := by
  cases j with
  | good => exact absurd rfl h
  | checkFailure => rfl
  | malformed => rfl

/-- A good COMMAND or MGMT on the F-port goes in the wrong direction. -/
theorem State.handField_wrongDirection (s : State) {f : Bytes} (h : frameKind f = 2 ∨ frameKind f = 4) :
    s.handField f = { s with fport.counters.wrongDirection := min 65535 (s.fport.counters.wrongDirection + 1) } := by
  rcases h with h | h <;> simp [State.handField, h, kindReport, kindNotice, kindReply, countUp, Config.countTop]

/-- A good NOTICE or REPLY on the F-port is forwarded. -/
theorem State.handField_forward (s : State) {f : Bytes} (h : frameKind f = 3 ∨ frameKind f = 5) :
    s.handField f = s.forwardUp f := by
  rcases h with h | h <;> simp [State.handField, h, kindReport, kindNotice, kindReply]

/-- A good REPORT on the F-port is forwarded by the mode and then correlated. -/
theorem State.handField_report (s : State) {f : Bytes} (h : frameKind f = 1) :
    s.handField f = (if s.agent.mode = .correlate then s else s.forwardUp f).correlateReport f := by
  simp [State.handField, h, kindReport, State.handReport]

/-- Settles O11: no reception, then the Link Qualifier's answer to each judgement. -/
theorem fieldFrameIsJudgedForTheLink : Obligations.FieldFrameIsJudgedForTheLink := by
  unfold Obligations.FieldFrameIsJudgedForTheLink
  refine ⟨fun f s => ⟨?_, ?_, fun early hoff => ?_⟩, fun f s hreset hinit hbad => ?_,
    fun f s hreset hinit hgood hkind => ?_⟩
  · rw [exec_fPortFrameReceived, if_neg (by simp)]
  · rw [exec_dPortFrameReceived, if_neg (by simp)]
  · have hnot := State.not_receiving hoff
    rw [exec_fPortFrameReceived, exec_dPortFrameReceived, if_neg (by simp [hnot]), if_neg (by simp [hnot])]
    exact ⟨rfl, rfl⟩
  · intro kept counted
    have hcounted : s.countField f (judge f) = counted := s.countField_bad hbad
    have hlink : counted.link = s.link := by rw [← hcounted]; simp
    have hagent : counted.agent = s.agent := by rw [← hcounted]; simp
    rw [exec_fPortFrameReceived_enabled hreset hinit, State.receiveField_bad hbad, hcounted]
    refine ⟨fun h => ?_, fun h => ?_, fun h hkeep => ?_, fun h hcheck hstrict => ?_⟩
    · rw [State.qualifyLink_bad_down hbad (by rw [hlink, h])]
    · rw [State.qualifyLink_bad_qualifying hbad (by rw [hlink, h])]
    · rw [State.qualifyLink_bad_pass hbad (by rw [hlink, h]) (by rwa [hagent])]
    · rw [hcheck, State.qualifyLink_strict (by rw [hlink, h]) (by rw [hagent, hstrict]), ← hagent]
      rfl
  · intro counted
    refine ⟨counted.qualifyLink .good, counted.qualifyLink_good, ?_⟩
    have hcounted : s.countField f .good = counted := rfl
    have hwrong : (counted.qualifyLink .good).fport.counters.wrongDirection = s.fport.counters.wrongDirection := by
      simp [counted]
    rw [exec_fPortFrameReceived_enabled hreset hinit, State.receiveField_good hgood, hcounted,
      State.handField_wrongDirection _ hkind, hwrong]

/-! ## Reports -/

/-- When the Source Monitor takes a report (R153). -/
theorem State.takes_iff (s : State) (f : Bytes) : s.takes f = true ↔ s.correlator.state = .ready ∧
    s.agent.mode ≠ .passThrough ∧ s.link.state = .pass ∧ (s.source (frameNode f)).state ≠ .unused := by
  simp [State.takes, State.ready, State.correlating, State.linkPass, and_assoc]

/-- A report that is not taken is counted uncorrelated. -/
theorem State.correlateReport_untaken {s : State} {f : Bytes} (h : ¬ s.takes f = true) : s.correlateReport f =
    { s with fport.counters.uncorrelated := min 65535 (s.fport.counters.uncorrelated + 1) } := by
  simp [State.correlateReport, h, countUp, Config.countTop]

/-- A taken duplicate raises its source's duplicates alone. -/
theorem State.correlateReport_duplicate {s : State} {f : Bytes} (h : s.takes f = true)
    (hdup : (s.source (frameNode f)).lastAccepted = some (frameSequence f)) : s.correlateReport f =
    s.modSource (frameNode f) fun e => { e with duplicates := min 65535 (e.duplicates + 1) } := by
  simp [State.correlateReport, State.takeReport, h, hdup, countUp, Config.countTop]

/-- A taken report that repeats none is accepted, and its items are taken. -/
theorem State.correlateReport_accepted {s : State} {f : Bytes} (h : s.takes f = true)
    (hnew : (s.source (frameNode f)).lastAccepted ≠ some (frameSequence f)) : s.correlateReport f =
    (s.acceptReport (frameNode f) (frameSequence f)).takeItems (frameNode f) (frameChannel f)
      (itemsOf (framePayload f)) := by
  simp [State.correlateReport, State.takeReport, h, hnew]

/-- Settles O12: the Link Qualifier first, the forwarding next, and the Source Monitor last, on what the forwarding
leaves. -/
theorem goodFieldFrameIsHandedOn : Obligations.GoodFieldFrameIsHandedOn := by
  unfold Obligations.GoodFieldFrameIsHandedOn
  intro f s hreset hinit hgood counted
  refine ⟨counted.qualifyLink .good, counted.qualifyLink_good, ?_⟩
  have hexec : exec (.fPortFrameReceived ⟨f, false⟩) s = .next ((counted.qualifyLink .good).handField f) := by
    rw [exec_fPortFrameReceived_enabled hreset hinit, State.receiveField_good hgood]
    rfl
  have hfport : (counted.qualifyLink .good).fport = counted.fport := by simp
  rw [hexec]
  generalize counted.qualifyLink .good = q at hfport ⊢
  intro up e taken repeated
  have hup : up.correlator = q.correlator ∧ up.agent.mode = q.agent.mode ∧ up.link = q.link ∧ up.sources = q.sources ∧
      up.fport = q.fport := by
    simp only [up]
    split <;> simp
  obtain ⟨hcorrelator, hmode, hlink, hsources, hupFport⟩ := hup
  have hsource : up.source (frameNode f) = e := State.source_congr (by rw [hsources]) _
  have htakes : up.takes f = true ↔ taken := by rw [up.takes_iff, hcorrelator, hmode, hlink, hsource]
  refine ⟨fun hkind => by rw [q.handField_forward hkind], fun hkind huntaken => ?_, fun hkind htaken hdup => ?_,
    fun hkind htaken hnew => ?_⟩
  · rw [q.handField_report hkind, State.correlateReport_untaken (s := up) (by rwa [htakes])]
    simp only [hupFport, hfport, counted]
  · rw [q.handField_report hkind, State.correlateReport_duplicate (s := up) (htakes.mpr htaken) (by rwa [hsource])]
    simp only [State.modSource, hsource, hsources, repeated]
  · rw [q.handField_report hkind, State.correlateReport_accepted (s := up) (htakes.mpr htaken) (by rwa [hsource])]

/-! ## SET MODE -/

/-- A payload of vector 4 is SET MODE's. -/
theorem commandRow_setMode (tag : Byte) (args : Bytes) : commandRow (4#8 :: tag :: args) = .setMode := by
  simp [commandRow, byteAt]

/-- SET MODE that the agent executes is the body on its payload. -/
theorem exec_setMode {s : State} {tag : Byte} {args : Bytes} (h : s.executes (4#8 :: tag :: args)) :
    exec .setMode s = .next (setModeBody (4#8 :: tag :: args) s).settle := by
  rw [← State.runRow_executes h (commandRow_setMode tag args)]
  rfl

/-- The mode that a code in range names (R176). -/
theorem modeOf_inRange {m : Byte} (h : m.toNat ≤ 2) :
    modeOf m.toNat = some (if m = 0#8 then .passThrough else if m = 1#8 then .monitor else .correlate) := by
  have hm : m = 0#8 ∨ m = 1#8 ∨ m = 2#8 := by
    have hcases : m.toNat = 0 ∨ m.toNat = 1 ∨ m.toNat = 2 := by omega
    exact hcases.imp BitVec.eq_of_toNat_eq (.imp BitVec.eq_of_toNat_eq BitVec.eq_of_toNat_eq)
  rcases hm with rfl | rfl | rfl <;> rfl

/-- A code above 2 names no mode (R176). -/
theorem modeOf_outOfRange {n : Nat} (h : 2 < n) : modeOf n = none := by
  rw [modeOf, if_neg (by omega), if_neg (by omega), if_neg (by omega)]

/-- A mode in range is taken up and answered DONE. -/
theorem settle_setModeBody {s : State} {tag m : Byte} {mode : Mode} (h : s.agent.state = .executing [4#8, tag, m])
    (hm : modeOf m.toNat = some mode) :
    (setModeBody [4#8, tag, m] s).settle = (s.changeMode mode).answered [4#8, tag, m] .done [] := by
  have hstate : (s.changeMode mode).agent.state = .executing [4#8, tag, m] := by
    simp only [State.changeMode]
    split <;> exact h
  rw [← done_settle hstate]
  simp [setModeBody, argumentLength, arguments, byteAt, hm]

/-- Settles O25: the length, the range, and the resume time of a mode that leaves PASS-THROUGH. -/
theorem setModeReplacesTheMode : Obligations.SetModeReplacesTheMode := by
  unfold Obligations.SetModeReplacesTheMode
  intro s tag args he
  obtain ⟨-, -, hstate⟩ := id he
  rw [exec_setMode he]
  refine ⟨fun hlen => ?_, ?_⟩
  · rw [setModeBody, if_pos (by simpa [argumentLength, arguments] using hlen), refuse_settle hstate]
  · rintro m rfl p mode
    refine ⟨fun hhigh => ?_, fun hlow hold hm => ?_, fun hlow hkeeps => ?_⟩
    · rw [← refuse_settle hstate]
      simp [setModeBody, argumentLength, arguments, byteAt, modeOf_outOfRange hhigh]
    · have hmode : mode ≠ .passThrough := by
        simp only [mode, if_neg hm]
        split <;> simp
      rw [settle_setModeBody hstate (modeOf_inRange hlow), State.changeMode, if_pos ⟨hold, hmode⟩]
      rfl
    · have hstays : ¬ (s.agent.mode = .passThrough ∧ mode ≠ .passThrough) := by
        rintro ⟨hold, hnew⟩
        exact hkeeps.elim (· hold) fun hm => hnew (if_pos hm)
      rw [settle_setModeBody hstate (modeOf_inRange hlow), State.changeMode, if_neg hstays]

/-! ## CONFIG -/

/-- A payload of vector 2 is CONFIG's. -/
theorem commandRow_config (tag : Byte) (args : Bytes) : commandRow (2#8 :: tag :: args) = .config := by
  simp [commandRow, byteAt]

/-- CONFIG that the agent executes is the body on its payload. -/
theorem exec_config {s : State} {tag : Byte} {args : Bytes} (h : s.executes (2#8 :: tag :: args)) :
    exec .config s = .next (configBody (2#8 :: tag :: args) s).settle := by
  rw [← State.runRow_executes h (commandRow_config tag args)]
  rfl

section
variable (n e k m f t1 t2 sf s0 s1 : Byte)

/-- The set that ten bytes carry (R176). -/
theorem configOf_bytes : configOf [n, e, k, m, f, t1, t2, sf, s0, s1] =
    ⟨n.toNat, if e = 1#8 then .lenient else .strict, k.toNat, m.toNat, f.toNat, t1.toNat * 256 + t2.toNat, sf.toNat,
      s0.toNat, s1.toNat⟩ := by
  have he : e.toNat = 1 ↔ e = 1#8 := ⟨fun h => BitVec.eq_of_toNat_eq h, fun h => congrArg BitVec.toNat h⟩
  simp [configOf, byteAt, numAt, bigEndian, he]

/-- The ranges of ten bytes (R176). -/
theorem configInRange_bytes : configInRange [n, e, k, m, f, t1, t2, sf, s0, s1] = true ↔
    n.toNat ≤ 15 ∧ e.toNat ≤ 1 ∧ 1 ≤ k.toNat ∧ k.toNat ≤ 60 ∧ 2 ≤ m.toNat ∧ m.toNat ≤ 15 ∧ f.toNat ≤ 31 ∧
      t1.toNat * 256 + t2.toNat ≤ 4095 ∧ sf.toNat ≤ 31 ∧ s0.toNat ≤ 7 ∧ s1.toNat ≤ 7 := by
  simp [configInRange, configOf_bytes, isFlag, byteAt, and_assoc]

end

/-- A QUALIFYING link whose run reaches a changed N enters PASS; on any other N acts at no more than the set (R151). -/
theorem State.configure_eq (s : State) (c : ConfigSet) : s.configure c =
    if c.passThreshold ≠ s.agent.config.passThreshold ∧ s.link.state = .qualifying ∧ c.passThreshold ≤ s.link.run then
      (s.replaceConfig c).enterPass.offerDispatch
    else (s.replaceConfig c).offerDispatch := by
  split
  · next h =>
    obtain ⟨hn, hlink⟩ := h
    rw [State.configure, State.followThreshold, if_neg (by exact hn), State.passIfRun, if_pos (by exact hlink)]
  · next h =>
    rw [State.configure, State.followThreshold]
    split
    · rfl
    · next hn => rw [State.passIfRun, if_neg (by exact fun hlink => h ⟨hn, hlink⟩)]

/-- The writing of the set leaves the state of an agent that is not waiting on its reply. -/
theorem State.configure_agentState {s : State} (h : s.agent.state ≠ .replyWaiting) (c : ConfigSet) :
    (s.configure c).agent.state = s.agent.state := by
  have hset : (s.replaceConfig c).agent.state ≠ .replyWaiting := h
  have hpass := State.enterPass_agent hset
  rw [State.configure_eq]
  split
  · rw [State.offerDispatch_agent (by rwa [hpass]), hpass]
    rfl
  · rw [State.offerDispatch_agent hset]
    rfl

/-- A set in range is written and answered DONE. -/
theorem settle_configBody {s : State} {p : Bytes} (h : s.agent.state = .executing p) (hlen : argumentLength p = 10)
    (hrange : configInRange (arguments p) = true) :
    (configBody p s).settle = (s.configure (configOf (arguments p))).answered p .done [] := by
  have hstate : (s.configure (configOf (arguments p))).agent.state = .executing p := by
    rw [State.configure_agentState (by simp [h]), h]
  rw [← done_settle hstate]
  simp [configBody, hlen, hrange]

/-! ## The output lines -/

/-- A source is SILENT exactly when the Source Table lists a SILENT entry. -/
theorem exists_silent_iff {t : Table SourceEntry} (w : Table.wf unusedSource t) :
    (t.any fun e => decide (e.2.state = .silent)) = true ↔ ∃ n, (tableGet unusedSource t n).state = .silent := by
  rw [List.any_eq_true]
  constructor
  · rintro ⟨⟨n, e⟩, hmem, he⟩
    exact ⟨n, by rw [tableGet_of_mem w hmem]; exact of_decide_eq_true he⟩
  · rintro ⟨n, hn⟩
    rcases tableGet_mem unusedSource t n with hmem | hunused
    · exact ⟨_, hmem, decide_eq_true hn⟩
    · rw [hunused] at hn
      cases hn

/-- What each select shows, in the words of R125. -/
theorem State.statSource_shows {s : State} (hs : s.Canonical) (select : Nat) :
    (select = 0 → (s.statSource select = true ↔ s.link.state = .pass)) ∧
    (select = 1 → (s.statSource select = true ↔ ∃ n, (s.source n).state = .silent)) ∧
    (select = 2 → (s.statSource select = true ↔ s.board ≠ [])) ∧
    (select = 3 → (s.statSource select = true ↔ 0 < s.correlator.independentCount)) ∧
    (select = 4 → (s.statSource select = true ↔ s.storm.state ≠ .calm)) ∧
    (select = 5 → (s.statSource select = true ↔ 192 ≤ s.notices.entries.length)) ∧
    (select = 6 → (s.statSource select = true ↔ ∃ j ∈ s.sweep.jobs, j.state = .running)) ∧
    (select = 7 → (s.statSource select = true ↔ s.correlator.state = .ready)) := by
  refine ⟨?_, ?_, ?_, ?_, ?_, ?_, ?_, ?_⟩ <;> rintro rfl
  · simp [State.statSource, State.linkPass]
  · exact exists_silent_iff hs.sources
  · simp [State.statSource, List.length_pos_iff]
  · simp [State.statSource]
  · simp [State.statSource]
  · exact decide_eq_true_iff
  · simp [State.statSource]
  · simp [State.statSource, State.ready]

theorem Escalation.isRaised_iff (e : Escalation) : e.isRaised = true ↔ ∃ c, e = .raised c := by
  cases e <;> simp [Escalation.isRaised]

/-- Settles O23: the length, the ranges, the threshold that a QUALIFYING link follows, and the output lines. -/
theorem configWritesTheSet : Obligations.ConfigWritesTheSet := by
  unfold Obligations.ConfigWritesTheSet
  refine ⟨fun s tag args he => ?_, fun s hreset hs => ?_⟩
  · obtain ⟨-, -, hstate⟩ := id he
    intro p
    rw [exec_config he]
    refine ⟨fun hlen => ?_, ?_⟩
    · rw [configBody, if_pos (by simpa [argumentLength, arguments] using hlen), refuse_settle hstate]
    · rintro n e k m f t1 t2 sf s0 s1 rfl inRange set old written passes
      have hrange : configInRange (arguments p) = true ↔ inRange := configInRange_bytes n e k m f t1 t2 sf s0 s1
      have hset : configOf (arguments p) = set := configOf_bytes n e k m f t1 t2 sf s0 s1
      have hwritten : s.replaceConfig set = written := by
        simp [State.replaceConfig, written, set, old, Bool.and_comm]
      have hdone (h : inRange) : (configBody p s).settle = (s.configure set).answered p .done [] := by
        rw [settle_configBody hstate rfl (hrange.mpr h), hset]
      refine ⟨fun hout => ?_, fun hin hstays => ?_, fun hin hpasses => ?_⟩
      · have hfalse : configInRange (arguments p) = false := by
          rw [← Bool.not_eq_true, hrange]
          exact hout
        rw [← refuse_settle hstate, configBody, if_neg (by simp [argumentLength, arguments]),
          if_pos (by rw [Bool.not_eq_true']; exact hfalse)]
      · rw [hdone hin, State.configure_eq, if_neg hstays, hwritten]
      · refine ⟨written.enterPass, written.enterPass_entered, ?_⟩
        rw [hdone hin, State.configure_eq, if_pos hpasses, hwritten]
  · have hstat (select : Nat) : (!s.inReset && s.statSource select) = s.statSource select := by simp [hreset]
    refine ⟨?_, ?_, ?_, ?_⟩
    · rw [State.stat0, hstat]
      exact State.statSource_shows hs _
    · rw [State.stat1, hstat]
      exact State.statSource_shows hs _
    · simpa [State.alert, hreset] using s.escalation.isRaised_iff
    · simp [State.fail, hreset, or_assoc]

/-! ## LOAD END and validation -/

/-- A payload of vector 9 is LOAD END's. -/
theorem commandRow_loadEnd (tag : Byte) (args : Bytes) : commandRow (9#8 :: tag :: args) = .loadEnd := by
  simp [commandRow, byteAt]

/-- LOAD END that the agent executes is the body on its payload. -/
theorem exec_loadEnd {s : State} {tag : Byte} {args : Bytes} (h : s.executes (9#8 :: tag :: args)) :
    exec .loadEnd s = .next (loadEndBody (9#8 :: tag :: args) s).settle := by
  rw [← State.runRow_executes h (commandRow_loadEnd tag args)]
  rfl

/-- A change of each entry among distinct keys reads as the change there, and as before elsewhere. -/
theorem tableGet_foldl_tableSet {α : Type} [DecidableEq α] {d : α} (f : Nat → α → α) {keys : List Nat}
    (hkeys : keys.Nodup) {t : Table α} (w : Table.wf d t) (k : Nat) :
    tableGet d (keys.foldl (fun t n => tableSet d t n (f n (tableGet d t n))) t) k =
      if k ∈ keys then f k (tableGet d t k) else tableGet d t k := by
  induction keys generalizing t with
  | nil => simp
  | cons n keys ih =>
    obtain ⟨hn, hkeys⟩ := List.nodup_cons.mp hkeys
    rw [List.foldl_cons, ih hkeys (tableSet_wf w _ _), tableGet_tableSet w]
    by_cases hk : k = n
    · subst hk
      simp [hn]
    · simp [hk]

/-- Every source's entry after a change of all sources. -/
theorem tableGet_changeSources (f : Nat → SourceEntry → SourceEntry) {t : Table SourceEntry}
    (w : Table.wf unusedSource t) (n : Nat) : tableGet unusedSource (changeSources f t) n =
      if n < 64 then f n (tableGet unusedSource t n) else tableGet unusedSource t n := by
  rw [changeSources, tableGet_foldl_tableSet f List.nodup_range w]
  simp [Config.sourceLimit]

/-- A validation that succeeds sets the asset count, READY, the resume time and the sources (R143). -/
theorem State.enterService_eq (s : State) (declared : Nat) : ∃ table,
    s.enterService declared = { s with
      agent.long := none
      tables.assetCount := declared
      correlator.state := .ready
      correlator.resumeTime := s.agent.time
      sources.table := table } ∧
    (s.Canonical → ∀ n, tableGet unusedSource table n =
      if n < 64 ∧ sourceUsed s.tables n = true then
        { s.source n with
            state := .waiting, expected := none, lastAccepted := none, lastFrameTime := none, restoredAt := none }
      else s.source n) := by
  refine ⟨changeSources (fun n e => if sourceUsed s.tables n then e.restart .waiting else e) s.sources.table, rfl,
    fun hs n => ?_⟩
  rw [tableGet_changeSources _ hs.sources]
  by_cases hn : n < 64
  · simp only [hn, if_true, true_and]
    rfl
  · simp only [hn, if_false, false_and]
    rfl

/-- A command done in the boot replay lets the replay go on (R187). -/
theorem State.finish_done_replaying {s : State} {offset executed : Nat} {p : Bytes}
    (h : s.agent.state = .replaying offset executed (some p)) (r : Bytes) :
    s.finish .done r = { s with agent.state := .replaying offset (executed + 1) none } := by
  simp [State.finish, h]

/-- A command of another end fails the boot replay at its frame (R187). -/
theorem State.finish_failed_replaying {s : State} {offset executed : Nat} {p : Bytes}
    (h : s.agent.state = .replaying offset executed (some p)) {v : ReplyStatus} (hv : v ≠ .done) (r : Bytes) :
    s.finish v r = s.failReplay (executed + 1) := by
  simp [State.finish, h, hv]

/-- VALIDATION_END of a validation in progress is its end. -/
theorem exec_validationEnd {s : State} {declared : Nat} (hreset : s.inReset = false)
    (hlong : s.agent.long = some (.validating declared)) :
    exec .validationEnd s = .next (s.endValidation declared) := by
  simp [exec, execValidationEnd, hreset, State.validationDone, hlong]

theorem State.endValidation_passed {s : State} {declared : Nat} (h : validate s.tables declared = none) :
    s.endValidation declared = (s.enterService declared).finish .done [] := by
  simp [State.endValidation, h]

theorem State.endValidation_failed {s : State} {declared check index : Nat}
    (h : validate s.tables declared = some (check, index)) :
    s.endValidation declared = s.backToLoading.finish .invalid (byte1 check ++ byte2 index) := by
  simp [State.endValidation, h]

/-- Settles O28: LOAD END by its length and the correlator's state, and both ends of validation, live and replayed. -/
theorem loadEndValidates : Obligations.LoadEndValidates := by
  unfold Obligations.LoadEndValidates
  refine ⟨fun s tag args he => ?_, fun s declared p hreset hlong hstate => ?_,
    fun s declared o n p hreset hlong hstate => ?_⟩
  · obtain ⟨-, -, hstate⟩ := id he
    rw [exec_loadEnd he]
    refine ⟨fun hlen => ?_, ?_⟩
    · rw [loadEndBody, if_pos (by simpa [argumentLength, arguments] using hlen), refuse_settle hstate]
    · rintro hi lo rfl
      have hlen : ¬ argumentLength [9#8, tag, hi, lo] ≠ 2 := by simp [argumentLength, arguments]
      have hcount : numAt (arguments [9#8, tag, hi, lo]) 0 2 = hi.toNat * 256 + lo.toNat := numAt_two hi lo []
      rw [loadEndBody, if_neg hlen]
      refine ⟨fun hload => ?_, fun hother => ?_⟩
      · rw [if_neg (by simp [hload]), Ending.settle_goesOn, State.beginValidation, hcount]
      · rw [if_pos hother, refuse_settle hstate]
  · rw [exec_validationEnd hreset hlong]
    refine ⟨fun hpass => ?_, fun check index hfail => ?_⟩
    · obtain ⟨table, hserved, htable⟩ := s.enterService_eq declared
      refine ⟨table, ?_, htable⟩
      rw [State.endValidation_passed hpass, hserved]
      exact congrArg _ (Ending.settle_reply (by exact hstate) .done [])
    · rw [State.endValidation_failed hfail]
      exact congrArg _ (Ending.settle_reply (s := s.backToLoading) hstate .invalid _)
  · rw [exec_validationEnd hreset hlong]
    refine ⟨fun hpass => ?_, fun check index hfail => ?_⟩
    · obtain ⟨table, hserved, htable⟩ := s.enterService_eq declared
      refine ⟨table, ?_, htable⟩
      rw [State.endValidation_passed hpass, hserved, State.finish_done_replaying (by exact hstate)]
    · rw [State.endValidation_failed hfail,
        State.finish_failed_replaying (s := s.backToLoading) hstate (by decide)]
      rfl

end Sys2Proof.Machine

/-! Notices and the Notice Queue (06_notices_and_the_notice_queue.md): the head and its floor, the merge tables, the
D-port arbiter and what it sends, the answer of a command, STATUS, and the storm commands. -/

namespace Sys2Proof.Machine

/-! ## The head of the queue -/

/-- The head is the entry that no older entry reaches and no younger one passes (R107). -/
theorem queueHead_append {before after : List Notice} {n : Notice} (hbefore : ∀ x ∈ before, x.priority < n.priority)
    (hafter : ∀ x ∈ after, x.priority ≤ n.priority) : queueHead (before ++ n :: after) = some n := by
  induction before with
  | nil =>
    rw [List.nil_append, queueHead]
    cases hhead : queueHead after with
    | none => rfl
    | some younger => exact if_neg (Nat.not_lt.mpr (hafter younger (queueHead_sound hhead).1))
  | cons b before ih =>
    obtain ⟨hb, hbefore⟩ := List.forall_mem_cons.mp hbefore
    rw [List.cons_append, queueHead, ih hbefore]
    exact if_pos hb

/-- What the current floor lets past (R108). -/
theorem State.eligible_iff (s : State) (n : Notice) :
    s.eligible n = true ↔ s.floor ≤ n.priority ∨ n.priority = 31 := by
  rw [State.eligible, Bool.or_eq_true, decide_eq_true_eq, decide_eq_true_eq]
  rfl

/-- A queue presents its head where the floor lets it past (R108). -/
theorem State.presented_of_head {s : State} {n : Notice} (h : queueHead s.notices.entries = some n) :
    s.presented = if s.eligible n then some n else none := by
  simp [State.presented, h]

/-- A queue without a head presents nothing. -/
theorem State.presented_of_empty {s : State} (h : queueHead s.notices.entries = none) : s.presented = none := by
  simp [State.presented, h]

/-- Settles O52: the head by its place among the entries, and its presentation by the floor. -/
theorem headIsTheMostUrgentThenOldest : Obligations.HeadIsTheMostUrgentThenOldest := by
  unfold Obligations.HeadIsTheMostUrgentThenOldest
  refine ⟨fun s before after n hq hbefore hafter => ?_, fun s hempty => ?_⟩
  · intro floor
    have hfloor : s.floor = floor := rfl
    have hhead : queueHead s.notices.entries = some n := by rw [hq, queueHead_append hbefore hafter]
    have heligible : s.eligible n = true ↔ floor ≤ n.priority ∨ n.priority = 31 := s.eligible_iff n
    rw [State.presented_of_head hhead]
    refine ⟨hfloor, hhead, fun hpast => if_pos (heligible.mpr hpast), fun hlow hne => if_neg ?_⟩
    rw [heligible]
    omega
  · have hhead : queueHead s.notices.entries = none := by rw [hempty, queueHead]
    exact ⟨hhead, State.presented_of_empty hhead⟩

/-! ## Merging -/

/-- The kind of a merged entry by the one row group of R102 that changes it. -/
theorem mergeKind_eq (existing requested : NoticeKind) : mergeKind existing requested =
    if requested = .restored ∧
        (existing = .out ∨ existing = .silent ∨ existing = .unmasked ∨ existing = .transient) then .transient
    else requested := by
  by_cases hr : requested = .restored
  · subst hr
    cases existing <;> rfl
  · rw [if_neg fun h => hr h.1, mergeKind]
    all_goals exact fun h => absurd h hr

/-- The count of a merged entry by the kind requested (R103). -/
theorem mergeCount_eq (k : NoticeKind) (existing requested : Nat) : mergeCount k.family existing requested =
    if k = .adopted then min 65535 (existing + requested)
    else if k = .sourceSilent ∨ k = .sourceBack ∨ k = .linkDown ∨ k = .linkUp ∨ k = .storm then
      min 65535 (existing + 1)
    else requested := by
  cases k <;> rfl

/-- Settles O50: the two merge tables. -/
theorem mergedNoticeFollowsTheTables : Obligations.MergedNoticeFollowsTheTables := by
  unfold Obligations.MergedNoticeFollowsTheTables
  intro e n k
  rw [mergeNotice, mergeKind_eq, mergeCount_eq]

/-! ## The arbiter -/

/-- D_PORT_FRAME_SENT of a SENDING transmitter is the arbiter's choice. -/
theorem exec_dPortFrameSent {s : State} (hreset : s.inReset = false) (hsending : s.dport.sending ≠ none) :
    exec .dPortFrameSent s = .next s.choose := by
  simp [exec, execDPortFrameSent, hreset, hsending]

/-- A waiting reply is chosen before anything else (R168). -/
theorem State.choose_reply {s : State} {p : Bytes} (h : s.dport.reply = some p) : s.choose = s.sendReply p := by
  simp [State.choose, h]

/-- Without a reply the arbiter looks at the head presented and the forward-up FIFO (R168). -/
theorem State.choose_noReply {s : State} (h : s.dport.reply = none) : s.choose = s.chooseBelowReply := by
  simp [State.choose, h]

/-- A head that is urgent, alone, or next in the alternation is sent (R168). -/
theorem State.chooseBelowReply_notice {s : State} {n : Notice} (hn : s.presented = some n)
    (h : 24 ≤ n.priority ∨ s.dport.up = [] ∨ s.dport.mark = .forward) : s.chooseBelowReply = s.sendNotice n := by
  cases hup : s.dport.up with
  | nil => simp [State.chooseBelowReply, hn, hup]
  | cons f rest =>
    by_cases hurgent : 24 ≤ n.priority
    · simp [State.chooseBelowReply, hn, hup, Config.urgentPriority, hurgent]
    · have hmark : s.dport.mark = .forward := by simpa [hurgent, hup] using h
      simp [State.chooseBelowReply, hn, hup, hmark]

/-- After a notice, a head below the urgent priorities lets the forwarded frame go first (R168). -/
theorem State.chooseBelowReply_alternate {s : State} {n : Notice} {f : Bytes} {rest : List Bytes}
    (hn : s.presented = some n) (hlow : n.priority < 24) (hup : s.dport.up = f :: rest)
    (hmark : s.dport.mark = .notice) : s.chooseBelowReply = s.sendForward f rest := by
  simp [State.chooseBelowReply, hn, hup, hmark, Config.urgentPriority, Nat.not_le.mpr hlow]

/-- A forwarded frame with no head presented is sent (R168). -/
theorem State.chooseBelowReply_forward {s : State} {f : Bytes} {rest : List Bytes} (hn : s.presented = none)
    (hup : s.dport.up = f :: rest) : s.chooseBelowReply = s.sendForward f rest := by
  simp [State.chooseBelowReply, hn, hup]

/-- With nothing available the transmitter becomes IDLE (R168). -/
theorem State.chooseBelowReply_idle {s : State} (hn : s.presented = none) (hup : s.dport.up = []) :
    s.chooseBelowReply = { s with dport.sending := none } := by
  simp [State.chooseBelowReply, hn, hup]

/-- Settles O16: the arbiter's choice by what waits. -/
theorem arbiterServesInOrder : Obligations.ArbiterServesInOrder := by
  unfold Obligations.ArbiterServesInOrder
  intro s hreset hsending
  rw [exec_dPortFrameSent hreset hsending]
  refine ⟨fun p hp => by rw [State.choose_reply hp], fun hnone => ?_⟩
  rw [State.choose_noReply hnone]
  refine ⟨fun n hn h => ?_, fun n f rest hn hlow hup hmark => ?_, fun f rest hn hup => ?_, fun hn hup => ?_⟩
  · rw [State.chooseBelowReply_notice hn h]
  · rw [State.chooseBelowReply_alternate hn hlow hup hmark]
  · rw [State.chooseBelowReply_forward hn hup]
  · rw [State.chooseBelowReply_idle hn hup]

/-! ## What is sent -/

/-- An agent waiting on its reply, with no frame waiting, becomes IDLE when the reply is chosen (R173). -/
theorem State.replyChosen_idle {s : State} (hstate : s.agent.state = .replyWaiting) (hqueue : s.agent.queue = []) :
    s.replyChosen = { s with agent.state := .idle } := by
  simp [State.replyChosen, State.takeCommand, hstate, hqueue]

/-- An agent waiting on its reply takes the next waiting frame when the reply is chosen (R173). -/
theorem State.replyChosen_next {s : State} {g : Bytes} {more : List Bytes} (hstate : s.agent.state = .replyWaiting)
    (hqueue : s.agent.queue = g :: more) :
    s.replyChosen = { s with agent.state := .executing (framePayload g), agent.queue := more } := by
  simp [State.replyChosen, State.takeCommand, hstate, hqueue]

/-- A reply repeats the vector and the tag of its command (R161). -/
theorem replyPayload_cons (vector tag : Byte) (args : Bytes) (status : ReplyStatus) (results : Bytes) :
    replyPayload (vector :: tag :: args) status results =
      vector :: tag :: BitVec.ofNat 8 (replyCode status) :: results := by
  simp [replyPayload, byte1, byteAt]

/-- A busy D-port transmitter leaves a reply in the buffer (R170). -/
theorem State.placeReply_busy {s : State} (h : s.dport.sending ≠ none) (p : Bytes) :
    s.placeReply p = { s with dport.reply := some p } := State.offerDispatch_busy h

/-- An IDLE D-port transmitter sends a reply at once (R168, R170). -/
theorem State.placeReply_idle {s : State} (h : s.dport.sending = none) (p : Bytes) :
    s.placeReply p = { s with dport.reply := some p }.sendReply p := by
  rw [State.placeReply, State.offerDispatch_idle (by exact h), State.choose_reply rfl]

/-- The bytes of a NOTICE payload are 25 in number (R162). -/
theorem length_noticePayload (number : Nat) (n : Notice) : (noticePayload number n).length = 25 := rfl

/-- Settles O17: the three things sent, the answer of a command, and the bytes of a NOTICE. -/
theorem repliesNoticesAndForwardsAreSent : Obligations.RepliesNoticesAndForwardsAreSent := by
  unfold Obligations.RepliesNoticesAndForwardsAreSent
  refine ⟨fun s n f p rest => ⟨rfl, rfl, ?_⟩, fun s vector tag args results status => ?_,
    fun number n => ?_, rfl, rfl, rfl, rfl⟩
  · intro sent
    have hsent : s.sendReply p = sent.replyChosen := rfl
    rw [hsent]
    exact ⟨State.replyChosen_of_ne (s := sent), State.replyChosen_idle (s := sent),
      fun _ _ => State.replyChosen_next (s := sent)⟩
  · intro reply
    rw [State.answered, replyPayload_cons]
    exact ⟨fun hbusy => State.placeReply_busy (by exact hbusy) _,
      fun hidle => State.placeReply_idle (by exact hidle) _⟩
  · intro one two four subject
    refine ⟨?_, length_noticePayload number n⟩
    have hsubject : subjectCode n.subject = subject := by
      simp only [subject]
      cases n.subject <;> rfl
    rw [noticePayload, hsubject]
    rfl

/-! ## STATUS -/

/-- A payload of vector 1 is STATUS's. -/
theorem commandRow_status (tag : Byte) (args : Bytes) : commandRow (1#8 :: tag :: args) = .status := by
  simp [commandRow, byteAt]

/-- STATUS that the agent executes is the body on its payload. -/
theorem exec_status {s : State} {tag : Byte} {args : Bytes} (h : s.executes (1#8 :: tag :: args)) :
    exec .status s = .next (statusBody (1#8 :: tag :: args) s).settle := by
  rw [← State.runRow_executes h (commandRow_status tag args)]
  rfl

/-- A yes/no byte is 1 or 0 (R174). -/
theorem flagByte_eq (b : Bool) : flagByte b = [if b then 1#8 else 0#8] := by cases b <;> rfl

/-- Settles O22: STATUS's body by its length, and the codes. -/
theorem statusRepliesWithTheState : Obligations.StatusRepliesWithTheState := by
  unfold Obligations.StatusRepliesWithTheState
  refine ⟨fun s tag args he => ?_, rfl, rfl, rfl, rfl, fun _ => rfl, fun _ => ⟨rfl, rfl, rfl, rfl⟩, rfl⟩
  obtain ⟨-, -, hstate⟩ := id he
  rw [exec_status he]
  refine ⟨fun hargs => ?_, ?_⟩
  · rw [statusBody, if_pos (by simpa [argumentLength, arguments] using hargs), refuse_settle hstate]
  · rintro rfl
    rw [statusBody, if_neg (by simp [argumentLength, arguments]), Ending.settle_reply hstate, State.statusResults,
      flagByte_eq]
    cases s.escalation <;> rfl

/-! ## STORM -/

/-- A payload of vector 24 is STORM ON's for an action of 1, and STORM OFF's for any other (R176; log entry 5). -/
theorem commandRow_storm (tag action floor : Byte) :
    commandRow [24#8, tag, action, floor] = if action.toNat = 1 then .stormOn else .stormOff := by
  simp [commandRow, byteAt, arguments]

section
variable {s : State} {tag action floor : Byte}

/-- STORM ON that the agent executes is the body on its payload. -/
theorem exec_stormOn (h : s.executes [24#8, tag, action, floor]) (haction : action.toNat = 1) :
    exec .stormOn s = .next (stormBody [24#8, tag, action, floor] s).settle := by
  rw [← State.runRow_executes h ((commandRow_storm ..).trans (if_pos haction))]
  rfl

/-- STORM OFF that the agent executes is the body on its payload. -/
theorem exec_stormOff (h : s.executes [24#8, tag, action, floor]) (haction : action.toNat ≠ 1) :
    exec .stormOff s = .next (stormBody [24#8, tag, action, floor] s).settle := by
  rw [← State.runRow_executes h ((commandRow_storm ..).trans (if_neg haction))]
  rfl

/-- The body of STORM on a payload of its length (R113, R114, R176). -/
theorem stormBody_bytes : stormBody [24#8, tag, action, floor] s =
    if 1 < action.toNat ∨ action.toNat = 1 ∧ 31 < floor.toNat then refuse s .range
    else if action.toNat = 1 then done (s.startStorm floor.toNat) else done s.endStorm := by
  simp [stormBody, argumentLength, arguments, byteAt, isFlag]

/-- STORM ON leaves an agent that is not waiting on its reply. -/
theorem State.startStorm_agent (h : s.agent.state ≠ .replyWaiting) (f : Nat) : (s.startStorm f).agent = s.agent :=
  State.offerDispatch_agent (by exact h)

/-- The end of a storm from CALM changes nothing (R114). -/
theorem State.endStorm_calm (h : s.storm.state = .calm) : s.endStorm = s := if_pos h

/-- The end of a storm makes the state CALM, and then the Escalation Unit is told (R114, R122). -/
theorem State.endStorm_of_ne (h : s.storm.state ≠ .calm) :
    s.endStorm = ({ s with storm.state := .calm } : State).offerDispatch.stormEnded := if_neg h

/-- The end of a storm leaves an agent that is not waiting on its reply. -/
theorem State.endStorm_agent (h : s.agent.state ≠ .replyWaiting) : s.endStorm.agent = s.agent := by
  by_cases hcalm : s.storm.state = .calm
  · rw [State.endStorm_calm hcalm]
  · have hoffer : ({ s with storm.state := .calm } : State).offerDispatch.agent = s.agent :=
      State.offerDispatch_agent (by exact h)
    rw [State.endStorm_of_ne hcalm, State.stormEnded_agent (by rwa [hoffer]), hoffer]

/-- A HELD escalation is raised when the storm ends (R122). -/
theorem State.stormEnded_held {c : EscalationContext} (h : s.escalation = .held c) : s.stormEnded = s.raise c := by
  simp [State.stormEnded, h]

/-- A unit that is not HELD is untouched by the end of a storm. -/
theorem State.stormEnded_of_not_held (h : ∀ c, s.escalation ≠ .held c) : s.stormEnded = s := by
  cases he : s.escalation with
  | held c => exact absurd he (h c)
  | disarmed | armed | raised => simp [State.stormEnded, he]

/-- An ESCALATION notice is filled from the correlator, the tables and the time base alone (R98, R123). -/
theorem State.escalationNotice_congr {t : State} (hcorrelator : t.correlator = s.correlator)
    (htables : t.tables = s.tables) (htime : t.agent.time = s.agent.time) (c : EscalationContext) :
    t.escalationNotice c = s.escalationNotice c := by
  simp [State.escalationNotice, State.record, State.zoneLookup, State.now, hcorrelator, htables, htime]

end

/-- Settles O38: STORM by its action, its floor and the storm state. -/
theorem stormCommandsSetTheStormState : Obligations.StormCommandsSetTheStormState := by
  unfold Obligations.StormCommandsSetTheStormState
  intro s tag action floor he p manual calm
  obtain ⟨-, -, hstate⟩ := id he
  have hfree : s.agent.state ≠ .replyWaiting := by simp [hstate]
  have hended (h : action = 0#8) : exec .stormOff s = .next (s.endStorm.answered p .done []) := by
    subst h
    have hrun : s.endStorm.agent.state = .executing p := by rw [State.endStorm_agent hfree, hstate]
    rw [exec_stormOff he (by decide), stormBody_bytes, if_neg (by simp), if_neg (by simp), done_settle hrun]
  refine ⟨?_, ?_, fun h hcalm => ?_, fun h hstorm hnone => ?_, fun c h hstorm hheld => ?_, fun h => ?_⟩
  · rintro rfl hlow
    have hrun : (s.startStorm floor.toNat).agent.state = .executing p := by rw [State.startStorm_agent hfree, hstate]
    rw [exec_stormOn he rfl, stormBody_bytes, if_neg (by simp; omega), if_pos (by decide), done_settle hrun]
    rfl
  · rintro rfl hhigh
    rw [exec_stormOn he rfl, stormBody_bytes, if_pos (.inr ⟨rfl, hhigh⟩), refuse_settle hstate]
  · rw [hended h, State.endStorm_calm hcalm]
  · have hkept : calm.escalation = s.escalation := by simp [calm]
    rw [hended h, State.endStorm_of_ne hstorm, State.stormEnded_of_not_held (by rwa [hkept])]
  · have hkept : calm.escalation = .held c := by simpa [calm] using hheld
    intro raised
    have hnotice : raised.escalationNotice c = s.escalationNotice c :=
      State.escalationNotice_congr (by simp [raised, calm]) (by simp [raised, calm]) (by simp [raised, calm]) c
    rw [hended h, State.endStorm_of_ne hstorm, State.stormEnded_held hkept]
    exact congrArg (fun n => Host.Outcome.next ((raised.arrive n).answered p .done [])) hnotice
  · rw [exec_stormOff he (by omega), stormBody_bytes, if_pos (.inl h), refuse_settle hstate]

end Sys2Proof.Machine

/-! Escalation and the output lines (07_escalation_and_output_lines.md): the two commands of the Escalation Unit and the
ALERT line after them. -/

namespace Sys2Proof.Machine

/-! ## ALERT after a reply -/

section
variable {s : State} {p : Bytes} {v : ReplyStatus} {r : Bytes}

/-- A reply leaves the state of the Escalation Unit. -/
@[simp] theorem State.answered_escalation : (s.answered p v r).escalation = s.escalation := by
  simp [State.answered]

/-- A reply leaves ALERT. -/
@[simp] theorem State.answered_alert : (s.answered p v r).alert = s.alert := by
  simp [State.alert, State.answered]

/-- ALERT is deasserted whenever the unit is not RAISED (R124). -/
theorem State.alert_of_not_raised (h : s.escalation.isRaised = false) : s.alert = false := by
  simp [State.alert, h]

end

/-! ## ESC ARM -/

section
variable {s : State} {tag : Byte}

/-- A payload of vector 25 is ESC ARM's. -/
theorem commandRow_escArm (args : Bytes) : commandRow (25#8 :: tag :: args) = .escArm := by
  simp [commandRow, byteAt]

/-- ESC ARM that the agent executes is the body on its payload. -/
theorem exec_escArm (h : s.executes [25#8, tag]) :
    exec .escArm s = .next (escArmBody [25#8, tag] s).settle := by
  rw [← State.runRow_executes h (commandRow_escArm ..)]
  rfl

/-- ESC ARM without an argument arms a unit that is DISARMED or ARMED (R120). -/
theorem escArmBody_armable (h : s.escalation = .disarmed ∨ s.escalation = .armed) :
    escArmBody [25#8, tag] s = done { s with escalation := .armed } := by
  rcases h with h | h <;> simp [escArmBody, argumentLength, arguments, h]

/-- ESC ARM without an argument is refused while an escalation stands (R120). -/
theorem escArmBody_standing {c : EscalationContext} (h : s.escalation = .raised c ∨ s.escalation = .held c) :
    escArmBody [25#8, tag] s = refuse s .state := by
  rcases h with h | h <;> simp [escArmBody, argumentLength, arguments, h]

end

/-- Settles O39: ESC ARM by whether an escalation stands. -/
theorem escArmArmsTheUnit : Obligations.EscArmArmsTheUnit := by
  unfold Obligations.EscArmArmsTheUnit
  intro s tag he
  obtain ⟨-, -, hstate⟩ := id he
  rw [exec_escArm he]
  refine ⟨fun h => ?_, fun c h => ?_⟩
  · rw [escArmBody_armable h, done_settle (by exact hstate)]
  · rw [escArmBody_standing h, refuse_settle hstate]
    refine ⟨rfl, ?_⟩
    rintro t ⟨⟩
    exact ⟨State.answered_escalation, State.answered_alert⟩

/-! ## ESC ACK -/

section
variable {s : State} {tag rearm : Byte}

/-- A payload of vector 26 is ESC ACK's. -/
theorem commandRow_escAck (args : Bytes) : commandRow (26#8 :: tag :: args) = .escAck := by
  simp [commandRow, byteAt]

/-- ESC ACK that the agent executes is the body on its payload. -/
theorem exec_escAck (h : s.executes [26#8, tag, rearm]) :
    exec .escAck s = .next (escAckBody [26#8, tag, rearm] s).settle := by
  rw [← State.runRow_executes h (commandRow_escAck ..)]
  rfl

/-- The unit after ESC ACK: rearmed or disarmed, its context discarded (R121). -/
def State.acknowledged (s : State) (rearm : Byte) : State :=
  { s with escalation := if rearm = 1#8 then .armed else .disarmed }

/-- An acknowledged unit is not RAISED, so ALERT is deasserted (R121, R124). -/
theorem State.acknowledged_alert : (s.acknowledged rearm).alert = false := by
  refine State.alert_of_not_raised ?_
  rw [State.acknowledged]
  split
  · rfl
  · rfl

/-- ESC ACK is refused where no escalation stands, whatever its rearm choice (R121). -/
theorem escAckBody_nothingStands (h : s.escalation = .disarmed ∨ s.escalation = .armed) :
    escAckBody [26#8, tag, rearm] s = refuse s .state := by
  rcases h with h | h <;> simp [escAckBody, argumentLength, arguments, h]

/-- ESC ACK of a standing escalation tests its rearm choice and acknowledges (R121, R175). -/
theorem escAckBody_standing {c : EscalationContext} (h : s.escalation = .raised c ∨ s.escalation = .held c) :
    escAckBody [26#8, tag, rearm] s =
      if 1 < rearm.toNat then refuse s .range else done (s.acknowledged rearm) := by
  have hone : rearm.toNat = 1 ↔ rearm = 1#8 := BitVec.toNat_inj (y := 1#8)
  rcases h with h | h <;>
    simp [escAckBody, argumentLength, arguments, byteAt, isFlag, State.acknowledged, h, hone]

end

/-- Settles O40: ESC ACK by whether an escalation stands, and then by its rearm choice. -/
theorem escAckDiscardsTheContext : Obligations.EscAckDiscardsTheContext := by
  unfold Obligations.EscAckDiscardsTheContext
  intro s tag rearm he
  obtain ⟨-, -, hstate⟩ := id he
  rw [exec_escAck he]
  refine ⟨fun h => ?_, fun c h => ⟨fun hhigh => ?_, fun hflag => ?_⟩⟩
  · rw [escAckBody_nothingStands h, refuse_settle hstate]
  · rw [escAckBody_standing h, if_pos hhigh, refuse_settle hstate]
  · rw [escAckBody_standing h, if_neg (Nat.not_lt.mpr hflag), done_settle (s := s.acknowledged rearm) hstate]
    refine ⟨rfl, ?_⟩
    rintro t ⟨⟩
    rw [State.answered_alert, State.acknowledged_alert]

end Sys2Proof.Machine

/-! The loaded tables (08_loaded_tables.md): the five checks of validation, the refusals of malformed commands, and the live
tests of an ASSET WRITE entry. -/

namespace Sys2Proof.Machine

/-! ## Validation -/

/-- Every index passes exactly when none is found that fails. -/
theorem lowestFailing_eq_none_iff {n : Nat} {passes : Nat → Bool} :
    lowestFailing n passes = none ↔ ∀ i < n, passes i = true := by
  simp [lowestFailing]

/-- The index found fails, and every lower one passes. -/
theorem lowestFailing_eq_some_iff {n i : Nat} {passes : Nat → Bool} :
    lowestFailing n passes = some i ↔ i < n ∧ ¬ passes i = true ∧ ∀ k < i, passes k = true := by
  simp [lowestFailing, List.find?_range_eq_some, and_left_comm]

/-- Check 4 in the words of R142. -/
theorem parentLower_iff (t : LoadedTables) (i : Nat) : parentLower t i = true ↔
    ∀ p, (tableGet unwrittenAsset t.assets i).parent = some p → p < i := by
  rw [parentLower]
  split <;> simp_all

/-- Check 5 in the words of R142. -/
theorem trunkWithin_iff (t : LoadedTables) (declared n : Nat) : trunkWithin t declared n = true ↔
    ∀ r, tableGet none t.trunks n = some r → r.base + r.length ≤ declared := by
  rw [trunkWithin]
  split <;> simp_all

/-- The failure that a check of lowest failing index `found` names, or what the checks after it name. -/
def nameFailure (check : Nat) (found : Option Nat) (later : Option (Nat × Nat)) : Option (Nat × Nat) :=
  (found.map fun i => (check, i)).or later

@[simp] theorem nameFailure_none (check : Nat) (later : Option (Nat × Nat)) : nameFailure check none later = later := rfl

@[simp] theorem nameFailure_some (check i : Nat) (later : Option (Nat × Nat)) :
    nameFailure check (some i) later = some (check, i) := rfl

/-- A check and those after it pass exactly when it finds no failure and they pass. -/
theorem nameFailure_eq_none_iff {check : Nat} {found : Option Nat} {later : Option (Nat × Nat)} :
    nameFailure check found later = none ↔ found = none ∧ later = none := by
  cases found <;> simp

/-- A declared count above the assets of the part fails check 1 (R142). -/
theorem validate_overLimit {t : LoadedTables} {declared : Nat} (h : ¬ declared ≤ 32768) :
    validate t declared = some (1, declared) := if_pos (Nat.lt_of_not_le h)

/-- With check 1 passed, checks 2 to 5 stand in their order (R142). -/
theorem validate_withinLimit {t : LoadedTables} {declared : Nat} (h : declared ≤ 32768) : validate t declared =
    nameFailure 2 (lowestFailing declared fun i => (tableGet unwrittenAsset t.assets i).written)
    (nameFailure 3
      (lowestFailing declared fun i => (tableGet none t.classes (tableGet unwrittenAsset t.assets i).cls).isSome)
    (nameFailure 4 (lowestFailing declared (parentLower t))
    (nameFailure 5 (lowestFailing 1024 (trunkWithin t declared)) none))) := by
  refine (if_neg (Nat.not_lt.mpr h)).trans ?_
  simp only [nameFailure, Option.orElse_eq_or, Option.or_none]
  rfl

/-- Settles O29: each check by what it finds, once those before it find nothing. -/
theorem validationMakesFiveChecks : Obligations.ValidationMakesFiveChecks := by
  unfold Obligations.ValidationMakesFiveChecks
  intro t declared asset ok2 ok3 ok4 ok5 pass1 pass2 pass3 pass4 lowest
  have hfound4 {i : Nat} (h : lowest declared ok4 i) : lowestFailing declared (parentLower t) = some i := by
    simpa only [lowestFailing_eq_some_iff, parentLower_iff] using h
  have hfound5 {i : Nat} (h : lowest 1024 ok5 i) : lowestFailing 1024 (trunkWithin t declared) = some i := by
    simpa only [lowestFailing_eq_some_iff, trunkWithin_iff] using h
  have hnone4 : lowestFailing declared (parentLower t) = none ↔ pass4 := by
    simp only [lowestFailing_eq_none_iff, parentLower_iff, pass4, ok4, asset]
  have hnone5 : lowestFailing 1024 (trunkWithin t declared) = none ↔ ∀ n < 1024, ok5 n := by
    simp only [lowestFailing_eq_none_iff, trunkWithin_iff, ok5]
  refine ⟨?_, validate_overLimit, fun i h1 h => ?_, fun i h1 h2 h => ?_, fun i h1 h2 h3 h => ?_,
    fun i h1 h2 h3 h4 h => ?_⟩
  · by_cases h1 : pass1
    · simp only [validate_withinLimit h1, nameFailure_eq_none_iff, hnone4, hnone5, lowestFailing_eq_none_iff, and_true, h1,
        true_and, pass2, pass3, ok2, ok3, asset]
    · simp [validate_overLimit h1, h1]
  · rw [validate_withinLimit h1, lowestFailing_eq_some_iff.mpr h, nameFailure_some]
  · rw [validate_withinLimit h1, lowestFailing_eq_none_iff.mpr h2, nameFailure_none, lowestFailing_eq_some_iff.mpr h,
      nameFailure_some]
  · rw [validate_withinLimit h1, lowestFailing_eq_none_iff.mpr h2, nameFailure_none, lowestFailing_eq_none_iff.mpr h3,
      nameFailure_none, hfound4 h, nameFailure_some]
  · rw [validate_withinLimit h1, lowestFailing_eq_none_iff.mpr h2, nameFailure_none, lowestFailing_eq_none_iff.mpr h3,
      nameFailure_none, hnone4.mpr h4, nameFailure_none, hfound5 h, nameFailure_some]

/-! ## The live tests of ASSET WRITE -/

/-- An entry out of range is refused RANGE in every state (R136). -/
theorem State.assetTest_outOfRange {s : State} {e : Bytes} (h : assetInRange e = false) :
    s.assetTest e = some .range := by
  simp [State.assetTest, h]

/-- An entry in range passes outside READY (R136, R139). -/
theorem State.assetTest_loading {s : State} {e : Bytes} (h : assetInRange e = true) (hs : s.correlator.state ≠ .ready) :
    s.assetTest e = none := by
  simp [State.assetTest, h, State.ready, hs]

/-- In READY an entry in range meets the live tests (R139). -/
theorem State.assetTest_ready {s : State} {e : Bytes} (h : assetInRange e = true) (hs : s.correlator.state = .ready) :
    s.assetTest e = s.liveAssetTest e := by
  simp [State.assetTest, h, State.ready, hs]

/-- A number of two bytes within a run, high byte first. -/
theorem numAt_pair {e : Bytes} {i : Nat} (h : i + 1 < e.length) :
    numAt e i 2 = byteAt e i * 256 + byteAt e (i + 1) := by
  have htake : (e.drop i).take 2 = [e[i], e[i + 1]] := by
    rw [List.drop_eq_getElem_cons (by omega), List.drop_eq_getElem_cons h]
    rfl
  simp [numAt, htake, bigEndian, byteAt, h, Nat.lt_of_succ_lt h]

/-- A number of three bytes within a run, high byte first. -/
theorem numAt_triple {e : Bytes} {i : Nat} (h : i + 2 < e.length) :
    numAt e i 3 = byteAt e i * 65536 + byteAt e (i + 1) * 256 + byteAt e (i + 2) := by
  have htake : (e.drop i).take 3 = [e[i], e[i + 1], e[i + 2]] := by
    rw [List.drop_eq_getElem_cons (by omega), List.drop_eq_getElem_cons (by omega), List.drop_eq_getElem_cons h]
    rfl
  simp [numAt, htake, bigEndian, byteAt, h, Nat.lt_of_succ_lt h, Nat.lt_of_succ_lt (Nat.lt_of_succ_lt h)]
  omega

theorem byteAt_lt (bs : Bytes) (i : Nat) : byteAt bs i < 256 := (bs.getD i 0#8).isLt

/-- The top bit of three bytes is that of the first (R176). -/
theorem testBit_threeBytes {a b c : Nat} (ha : a < 256) (hb : b < 256) (hc : c < 256) :
    (a * 65536 + b * 256 + c).testBit 23 = decide (128 ≤ a) := by
  rw [Nat.testBit_eq_decide_div_mod_eq, decide_eq_decide]
  omega

/-- The low 20 bits of three bytes leave out the upper half of the first (R176). -/
theorem ofNat_threeBytes (a b c : Nat) :
    BitVec.ofNat 20 (a * 65536 + b * 256 + c) = BitVec.ofNat 20 (a % 16 * 65536 + b * 256 + c) := by
  refine BitVec.eq_of_toNat_eq ?_
  simp only [BitVec.toNat_ofNat]
  omega

/-- Settles O32: the tests of an entry in the order of R139, and the entry's bytes field by field. -/
theorem liveAssetEditsAreTestedInOrder : Obligations.LiveAssetEditsAreTestedInOrder := by
  unfold Obligations.LiveAssetEditsAreTestedInOrder
  refine ⟨fun s e => ?_, fun s e hlen => ?_⟩
  · intro i new
    refine ⟨State.assetTest_outOfRange, State.assetTest_loading, fun hin hready => ?_⟩
    rw [State.assetTest_ready hin hready, State.liveAssetTest]
    refine ⟨fun hpast => if_pos hpast, fun hi hparent => ?_, fun hi hparent hclass => ?_, fun c hi hparent hclass => ?_⟩
    · rw [if_neg (Nat.not_le.mpr hi), if_pos hparent]
    · rw [if_neg (Nat.not_le.mpr hi), if_neg (not_not.mpr hparent), hclass]
    · rw [if_neg (Nat.not_le.mpr hi), if_neg (not_not.mpr hparent), hclass]
  · intro one two low
    have hindex : assetIndex e = two 0 := numAt_pair (by omega)
    have hparent : numAt e 3 2 = two 3 := numAt_pair (by omega)
    have hlast : numAt e 5 3 = one 5 * 65536 + one 6 * 256 + one 7 := numAt_triple (by omega)
    refine ⟨hindex, ?_, ?_, rfl⟩
    · rw [assetOf, hparent, hlast, ofNat_threeBytes, testBit_threeBytes (byteAt_lt ..) (byteAt_lt ..) (byteAt_lt ..)]
      rfl
    · simp [assetInRange, hindex, hparent, Config.assetLimit, one, and_assoc]

/-! ## The row of a payload -/

/-- An argument byte stands two places on in its payload (R161). -/
theorem byteAt_arguments (p : Bytes) (i : Nat) : byteAt (arguments p) i = byteAt p (i + 2) := by
  simp [byteAt, arguments, Nat.add_comm]

/-- The arguments are what follows the vector and the tag (R161). -/
theorem argumentLength_eq (p : Bytes) : argumentLength p = p.length - 2 := List.length_drop

/-- A payload with no room for vector and tag is MGMT_BAD_VECTOR's (R175). -/
theorem commandRow_short {p : Bytes} (h : p.length < 2) : commandRow p = .badVector := if_pos h

/-- A payload of a vector that the part does not know is MGMT_BAD_VECTOR's (R175). -/
theorem commandRow_unknown {p : Bytes}
    (h : byteAt p 0 ∉ [1, 2, 3, 4, 5, 6, 8, 9, 10, 11, 12, 13, 16, 17, 18, 19, 20, 24, 25, 26, 30, 31]) :
    commandRow p = .badVector := by
  rw [commandRow]
  split
  · rfl
  · split <;> simp_all

/-! ## The lengths that a row allows -/

/-- The command of a row. -/
def CommandRow.command : CommandRow → Instr
  | .badVector => .mgmtBadVector
  | .status => .status
  | .config => .config
  | .timeSet => .timeSet
  | .setMode => .setMode
  | .restartClear => .restartClear
  | .restartFull => .restartFull
  | .readCountersPort => .readCountersPort
  | .readCountersSource => .readCountersSource
  | .loadBegin => .loadBegin
  | .loadEnd => .loadEnd
  | .classWrite => .classWrite
  | .templateWrite => .templateWrite
  | .assetWrite => .assetWrite
  | .trunkWrite => .trunkWrite
  | .queryAsset => .queryAsset
  | .queryList => .queryList
  | .ackFault => .ackFault
  | .ackRestored => .ackRestored
  | .setServiceOut => .setServiceOut
  | .setServiceIn => .setServiceIn
  | .stormOn => .stormOn
  | .stormOff => .stormOff
  | .escArm => .escArm
  | .escAck => .escAck
  | .flashErase => .flashErase
  | .flashWrite => .flashWrite

/-- A command that the agent executes is the body of its row on the payload. -/
theorem exec_command {s : State} {p : Bytes} {row : CommandRow} (h : s.executes p) (hrow : commandRow p = row) :
    exec row.command s = .next (row.body p s).settle := by
  rw [← State.runRow_executes h hrow]
  cases row <;> rfl

/-- A row whose body refuses its payload answers the refusal. -/
theorem exec_refused {s : State} {p : Bytes} {row : CommandRow} {v : ReplyStatus} (h : s.executes p)
    (hrow : commandRow p = row) (hbody : row.body p s = refuse s v) :
    exec row.command s = .next (s.answered p v []) := by
  obtain ⟨-, -, hstate⟩ := id h
  rw [exec_command h hrow, hbody, refuse_settle hstate]

/-- The one argument length of a row that allows one (R176). -/
def CommandRow.lengthAllowed : CommandRow → Option Nat
  | .status | .loadBegin | .escArm | .flashErase => some 0
  | .setMode | .restartClear | .restartFull | .escAck => some 1
  | .loadEnd | .ackFault | .ackRestored | .stormOn | .stormOff => some 2
  | .readCountersPort | .readCountersSource | .queryAsset | .setServiceOut | .setServiceIn => some 3
  | .timeSet => some 4
  | .queryList => some 5
  | .config => some 10
  | .classWrite => some 21
  | .flashWrite => some 132
  | .badVector | .templateWrite | .assetWrite | .trunkWrite => none

/-- The entry size and the most entries of a row that takes whole entries (R176). -/
def CommandRow.entryShape : CommandRow → Option (Nat × Nat)
  | .templateWrite => some (10, 16)
  | .assetWrite => some (8, 29)
  | .trunkWrite => some (7, 16)
  | _ => none

/-- The rows of the record and list commands, which need READY (R175). -/
def CommandRow.needsReady : CommandRow → Bool
  | .queryAsset | .queryList | .ackFault | .ackRestored | .setServiceOut | .setServiceIn => true
  | _ => false

/-- The command, the row and the one argument length that a list names belong together. -/
abbrev NamesLength (x : Instr × CommandRow × Nat) : Prop :=
  x.1 = x.2.1.command ∧ x.2.1.lengthAllowed = some x.2.2

/-- The command, the row and the shape of entries that a list names belong together. -/
abbrev NamesShape (x : Instr × CommandRow × Nat × Nat) : Prop :=
  x.1 = x.2.1.command ∧ x.2.1.entryShape = some x.2.2

section
variable {row : CommandRow} {p : Bytes} {s : State}

/-- An argument length other than the row's is refused before anything else (R175). -/
theorem CommandRow.body_badLength {n : Nat} (hrow : row.lengthAllowed = some n) (hlen : p.length - 2 ≠ n) :
    row.body p s = refuse s .badLength := by
  rw [← argumentLength_eq] at hlen
  cases row with
  | badVector | templateWrite | assetWrite | trunkWrite => exact nomatch hrow
  | _ =>
    obtain rfl := Option.some.inj hrow
    exact if_pos hlen

/-- With its length right, a record or list command is refused STATE unless the correlator is READY (R175). -/
theorem CommandRow.body_notReady {n : Nat} (hneeds : row.needsReady = true) (hrow : row.lengthAllowed = some n)
    (hlen : p.length - 2 = n) (hs : s.correlator.state ≠ .ready) : row.body p s = refuse s .state := by
  rw [← argumentLength_eq] at hlen
  have hready : (!s.ready) = true := by simp [State.ready, hs]
  cases row with
  | queryAsset | queryList | ackFault | ackRestored | setServiceOut | setServiceIn =>
    obtain rfl := Option.some.inj hrow
    exact (if_neg (not_not.mpr hlen)).trans (if_pos hready)
  | _ => exact nomatch hneeds

/-- The length test of a list of entries in the words of R176. -/
theorem entryLengthOk_iff {size : Nat} (hsize : 0 < size) (most : Nat) (a : Bytes) :
    entryLengthOk size most a = true ↔ ∃ n, 1 ≤ n ∧ n ≤ most ∧ a.length = n * size := by
  simp only [entryLengthOk, Bool.and_eq_true, decide_eq_true_eq, and_assoc]
  constructor
  · rintro ⟨hmod, hlow, hhigh⟩
    exact ⟨_, hlow, hhigh, (Nat.div_mul_cancel (Nat.dvd_of_mod_eq_zero hmod)).symm⟩
  · rintro ⟨n, hlow, hhigh, hlen⟩
    rw [hlen, Nat.mul_mod_left, Nat.mul_div_cancel _ hsize]
    exact ⟨rfl, hlow, hhigh⟩

/-- An entry has at least one byte. -/
theorem CommandRow.entryShape_pos {size most : Nat} (hrow : row.entryShape = some (size, most)) : 0 < size := by
  cases row with
  | templateWrite | assetWrite | trunkWrite =>
    obtain ⟨rfl, rfl⟩ := Prod.mk.inj (Option.some.inj hrow)
    decide
  | _ => exact nomatch hrow

/-- An argument list that is not of whole entries, one at least and no more than the row takes, is refused (R175). -/
theorem CommandRow.body_badEntries {size most : Nat} (hrow : row.entryShape = some (size, most))
    (hlen : entryLengthOk size most (arguments p) = false) : row.body p s = refuse s .badLength := by
  have hrefused : (!entryLengthOk size most (arguments p)) = true := by rw [hlen, Bool.not_false]
  cases row with
  | templateWrite | assetWrite | trunkWrite =>
    obtain ⟨rfl, rfl⟩ := Prod.mk.inj (Option.some.inj hrow)
    exact if_pos hrefused
  | _ => exact nomatch hrow

/-- With its length right, a write of entries is refused STATE unless the tables are open (R175). -/
theorem CommandRow.body_tablesClosed {size most : Nat} (hrow : row.entryShape = some (size, most))
    (hlen : entryLengthOk size most (arguments p) = true) (hs : s.tablesOpen = false) :
    row.body p s = refuse s .state := by
  have hpassed : ¬ (!entryLengthOk size most (arguments p)) = true := by simp [hlen]
  have hclosed : (!s.tablesOpen) = true := by rw [hs, Bool.not_false]
  cases row with
  | templateWrite | assetWrite | trunkWrite =>
    obtain ⟨rfl, rfl⟩ := Prod.mk.inj (Option.some.inj hrow)
    exact (if_neg hpassed).trans (if_pos hclosed)
  | _ => exact nomatch hrow

/-- The tables are closed unless the correlator is LOADING or READY (R135). -/
theorem State.tablesOpen_eq_false (hloading : s.correlator.state ≠ .loading) (hready : s.correlator.state ≠ .ready) :
    s.tablesOpen = false := by
  simp [State.tablesOpen, State.ready, hloading, hready]

/-- A refusal's reply carries the vector, the tag, 0 for each not received, and its status (R174). -/
theorem replyPayload_refused (v : ReplyStatus) :
    replyPayload p v [] = [p.getD 0 0#8, p.getD 1 0#8, BitVec.ofNat 8 (replyCode v)] := by
  simp [replyPayload, byte1, byteAt]

/-- MGMT_BAD_VECTOR is refused by the length of its payload (R174, R175). -/
theorem badVectorBody_eq : CommandRow.badVector.body p s = refuse s (if p.length < 2 then .badLength else .badVector) := by
  simp only [CommandRow.body, badVectorBody]
  split <;> rfl

end

/-- Settles O21: each row by its length and the correlator's state, and the row of a payload by its vector. -/
theorem malformedCommandsAreRefused : Obligations.MalformedCommandsAreRefused := by
  unfold Obligations.MalformedCommandsAreRefused
  refine ⟨fun s p he => ⟨fun hshort => ⟨?_, ?_⟩, fun hlong hvector => ⟨?_, ?_⟩⟩,
    fun s p c row length he hrow => ⟨fun hmem hlen => ?_, fun hmem => ?_⟩,
    fun s p c row size most he hrow hmem => ?_,
    fun p => ⟨commandRow_short, fun _ => commandRow_unknown, fun row hlong hmem => ?_,
      fun place one other hlong hmem => ?_⟩⟩
  · exact exec_refused he (commandRow_short hshort) (by rw [badVectorBody_eq, if_pos hshort])
  · rw [State.answered, replyPayload_refused]
    rfl
  · exact exec_refused he (commandRow_unknown hvector) (by rw [badVectorBody_eq, if_neg (Nat.not_lt.mpr hlong)])
  · rw [State.answered, replyPayload_refused]
    rfl
  · obtain ⟨rfl, hlength⟩ : c = row.command ∧ row.lengthAllowed = some length :=
      List.forall_iff_forall_mem (p := NamesLength).mp (by decide) _ hmem
    exact exec_refused he hrow (CommandRow.body_badLength hlength hlen)
  · obtain ⟨⟨rfl, hlength⟩, hneeds⟩ :
        (c = row.command ∧ row.lengthAllowed = some length) ∧ row.needsReady = true :=
      List.forall_iff_forall_mem (p := fun x => NamesLength x ∧ x.2.1.needsReady = true).mp (by decide) _ hmem
    exact ⟨fun hlen => exec_refused he hrow (CommandRow.body_badLength hlength hlen),
      fun hlen hs => exec_refused he hrow (CommandRow.body_notReady hneeds hlength hlen hs)⟩
  · intro whole
    obtain ⟨rfl, hshape⟩ : c = row.command ∧ row.entryShape = some (size, most) :=
      List.forall_iff_forall_mem (p := NamesShape).mp (by decide) _ hmem
    have hwhole : entryLengthOk size most (arguments p) = true ↔ whole := by
      rw [entryLengthOk_iff (CommandRow.entryShape_pos hshape), ← argumentLength, argumentLength_eq]
    exact ⟨fun hlen => exec_refused he hrow
        (CommandRow.body_badEntries hshape (Bool.eq_false_iff.mpr (mt hwhole.mp hlen))),
      fun hlen hloading hready => exec_refused he hrow
        (CommandRow.body_tablesClosed hshape (hwhole.mpr hlen) (State.tablesOpen_eq_false hloading hready))⟩
  · rw [commandRow, if_neg (Nat.not_lt.mpr hlong)]
    -- In each branch the vector's line of the list is the branch's row, or the vector has no line.
    split <;> simp_all
  · rw [commandRow, if_neg (Nat.not_lt.mpr hlong)]
    split <;> simp_all [byteAt_arguments]

end Sys2Proof.Machine

/-! Frames and ports (10_frames_and_ports.md): the forward FIFOs, the F-port transmitter, and the counters that READ
COUNTERS replies and clears. -/

namespace Sys2Proof.Machine

/-! ## The forward FIFOs and the F-port transmitter -/

section
variable {s : State}

/-- With nothing in the forward-down FIFO the F-port transmitter becomes IDLE (R167). -/
theorem State.takeDown_empty (h : s.fport.down = []) : s.takeDown = { s with fport.sending := none } := by
  simp [State.takeDown, h]

/-- The F-port transmitter takes the head of the forward-down FIFO (R167). -/
theorem State.takeDown_head {f : Bytes} {rest : List Bytes} (h : s.fport.down = f :: rest) :
    s.takeDown = { s with fport.sending := some f, fport.down := rest } := by
  simp [State.takeDown, h]

/-- There is a place while fewer than 16 frames wait (R166). -/
theorem State.downHasPlace_iff : s.downHasPlace = true ↔ s.fport.down.length < 16 := decide_eq_true_iff

/-- A frame that finds the forward-down FIFO full is discarded and counted (R166). -/
theorem State.forwardDown_full (h : 16 ≤ s.fport.down.length) (f : Bytes) : s.forwardDown f =
    { s with fport.counters.downOverflows := min 65535 (s.fport.counters.downOverflows + 1) } :=
  if_neg (mt State.downHasPlace_iff.mp (Nat.not_lt.mpr h))

/-- Behind a SENDING transmitter a frame joins the tail of the forward-down FIFO (R166). -/
theorem State.forwardDown_sending (hplace : s.fport.down.length < 16) (hsending : s.fport.sending ≠ none) (f : Bytes) :
    s.forwardDown f = { s with fport.down := s.fport.down ++ [f] } :=
  (if_pos (State.downHasPlace_iff.mpr hplace)).trans (if_neg hsending)

/-- An IDLE transmitter, behind which nothing waits, takes a forwarded frame at once (R167). -/
theorem State.forwardDown_idle (hempty : s.fport.down = []) (hidle : s.fport.sending = none) (f : Bytes) :
    s.forwardDown f = { s with fport.sending := some f } := by
  have hplace : s.downHasPlace = true := State.downHasPlace_iff.mpr (by simp [hempty])
  have hhead : s.fport.down ++ [f] = f :: s.fport.down := by simp [hempty]
  rw [State.forwardDown, if_pos hplace, if_pos hidle, State.takeDown_head hhead]

/-- A frame that finds the forward-up FIFO full is discarded and counted (R166). -/
theorem State.forwardUp_full (h : 16 ≤ s.dport.up.length) (f : Bytes) : s.forwardUp f =
    { s with dport.counters.upOverflows := min 65535 (s.dport.counters.upOverflows + 1) } :=
  if_pos h

/-- A frame that finds a place joins the tail of the forward-up FIFO and is offered to the D-port transmitter (R166, R168). -/
theorem State.forwardUp_place (h : s.dport.up.length < 16) (f : Bytes) :
    s.forwardUp f = { s with dport.up := s.dport.up ++ [f] }.offerDispatch :=
  if_neg (Nat.not_le.mpr h)

/-- F_PORT_FRAME_SENT of a SENDING transmitter counts the frame and takes the next (R167, R171). -/
theorem exec_fPortFrameSent (hreset : s.inReset = false) (hsending : s.fport.sending ≠ none) :
    exec .fPortFrameSent s = .next
      { s with fport.counters.transmitted := min 65535 (s.fport.counters.transmitted + 1) }.takeDown := by
  have hacts : (!s.inReset) = true ∧ s.fport.sending ≠ none := ⟨by rw [hreset, Bool.not_false], hsending⟩
  exact congrArg Host.Outcome.next (if_pos hacts)

end

/-- Settles O15: each FIFO by its places and its transmitter, and the F-port transmitter by what waits behind it. -/
theorem forwardFifosAndTheFieldTransmitter : Obligations.ForwardFifosAndTheFieldTransmitter := by
  unfold Obligations.ForwardFifosAndTheFieldTransmitter
  refine ⟨fun f s => ⟨fun hfull => ?_, fun hplace hsending => ?_, fun hempty hidle => ?_, fun hfull => ?_,
    fun hplace hsending => ?_, fun hplace hidle => ?_⟩,
    fun s hreset hsending => ⟨fun hempty => ?_, fun f rest hwaiting => ?_⟩⟩
  · exact State.forwardDown_full hfull f
  · exact State.forwardDown_sending hplace hsending f
  · exact State.forwardDown_idle hempty hidle f
  · exact State.forwardUp_full hfull f
  · rw [State.forwardUp_place hplace, State.offerDispatch_busy (by exact hsending)]
  · rw [State.forwardUp_place hplace, State.offerDispatch_idle (by exact hidle)]
  · rw [exec_fPortFrameSent hreset hsending, State.takeDown_empty (by exact hempty)]
  · rw [exec_fPortFrameSent hreset hsending, State.takeDown_head (by exact hwaiting)]

/-! ## READ COUNTERS -/

/-- A payload of vector 6 is group SOURCE's for a group of 1, and group PORT's for any other (R176; log entry 5). -/
theorem commandRow_readCounters (tag group source clear : Byte) :
    commandRow [6#8, tag, group, source, clear] =
      if group.toNat = 1 then .readCountersSource else .readCountersPort := by
  simp [commandRow, byteAt, arguments]

section
variable {s : State} {tag group source clear : Byte}

/-- Group PORT that the agent executes is the body on its payload. -/
theorem exec_readCountersPort (h : s.executes [6#8, tag, group, source, clear]) (hgroup : group.toNat ≠ 1) :
    exec .readCountersPort s = .next (readCountersPortBody [6#8, tag, group, source, clear] s).settle :=
  exec_command h ((commandRow_readCounters ..).trans (if_neg hgroup))

/-- Group SOURCE that the agent executes is the body on its payload. -/
theorem exec_readCountersSource (h : s.executes [6#8, tag, group, source, clear]) (hgroup : group.toNat = 1) :
    exec .readCountersSource s = .next (readCountersSourceBody [6#8, tag, group, source, clear] s).settle :=
  exec_command h ((commandRow_readCounters ..).trans (if_pos hgroup))

/-- The body of group PORT on a payload of its length (R176, R181). -/
theorem readCountersPortBody_bytes : readCountersPortBody [6#8, tag, group, source, clear] s =
    if group.toNat ≠ 0 ∨ 1 < clear.toNat then refuse s .range
    else .reply (if clear.toNat = 1 then s.zeroPortGroup else s) .done (s.portCounters.map byte2).flatten := by
  simp [readCountersPortBody, argumentLength, arguments, byteAt, isFlag, State.portSnapshot, State.portCounters]

/-- The body of group SOURCE on a payload of its length (R176, R181). -/
theorem readCountersSourceBody_bytes : readCountersSourceBody [6#8, tag, group, source, clear] s =
    if 63 < source.toNat ∨ 1 < clear.toNat then refuse s .range
    else .reply (if clear.toNat = 1 then s.modSource source.toNat SourceEntry.zeroCounters else s) .done
      (sourceSnapshot (s.source source.toNat)) := by
  simp [readCountersSourceBody, argumentLength, arguments, byteAt, isFlag]

end

/-- Settles O26: each group by its clear byte, and the refusals of the group, the source and the clear byte. -/
theorem readCountersSnapshotsAndClears : Obligations.ReadCountersSnapshotsAndClears := by
  unfold Obligations.ReadCountersSnapshotsAndClears
  intro s tag group source clear he p e ports counts zeroed emptied
  obtain ⟨-, -, hstate⟩ := id he
  refine ⟨?_, ?_, fun h => ?_, ?_, ?_, ?_⟩
  · rintro rfl rfl
    rw [exec_readCountersPort he (by decide), readCountersPortBody_bytes, if_neg (by decide), if_neg (by decide),
      Ending.settle_reply hstate]
  · rintro rfl rfl
    rw [exec_readCountersPort he (by decide), readCountersPortBody_bytes, if_neg (by decide), if_pos (by decide),
      Ending.settle_reply (s := s.zeroPortGroup) hstate]
    rfl
  · have hrefused : group.toNat ≠ 0 ∨ 1 < clear.toNat := h.imp (by omega) And.right
    have hport : group.toNat ≠ 1 := by
      rcases h with h | ⟨rfl, -⟩
      · omega
      · decide
    rw [exec_readCountersPort he hport, readCountersPortBody_bytes, if_pos hrefused, refuse_settle hstate]
  · rintro rfl hsource rfl
    rw [exec_readCountersSource he (by decide), readCountersSourceBody_bytes,
      if_neg (not_or.mpr ⟨Nat.not_lt.mpr hsource, by decide⟩), if_neg (by decide), Ending.settle_reply hstate]
    rfl
  · rintro rfl hsource rfl
    rw [exec_readCountersSource he (by decide), readCountersSourceBody_bytes,
      if_neg (not_or.mpr ⟨Nat.not_lt.mpr hsource, by decide⟩), if_pos (by decide),
      Ending.settle_reply (s := s.modSource source.toNat SourceEntry.zeroCounters) hstate]
    rfl
  · rintro rfl hrefused
    rw [exec_readCountersSource he (by decide), readCountersSourceBody_bytes, if_pos hrefused, refuse_settle hstate]

end Sys2Proof.Machine

/-! The Management Agent (11_the_management_agent.md): the serial flash, the boot replay, and what every command leaves of
the queue of waiting commands. -/

namespace Sys2Proof.Machine

/-! ## The serial flash -/

/-- A payload of vector 30 is FLASH ERASE's. -/
theorem commandRow_flashErase (tag : Byte) (args : Bytes) : commandRow (30#8 :: tag :: args) = .flashErase := by
  simp [commandRow, byteAt]

/-- A payload of vector 31 is FLASH WRITE's. -/
theorem commandRow_flashWrite (tag : Byte) (args : Bytes) : commandRow (31#8 :: tag :: args) = .flashWrite := by
  simp [commandRow, byteAt]

/-- The number in the first four bytes of a run, high byte first. -/
theorem numAt_four_cons (a b c d : Byte) (rest : Bytes) : numAt (a :: b :: c :: d :: rest) 0 4 =
    a.toNat * 16777216 + b.toNat * 65536 + c.toNat * 256 + d.toNat := by
  rw [← numAt_four]
  simp [numAt]

/-- The blank test of a block in the words of R186. -/
theorem State.blockBlank_iff (s : State) (offset : Nat) : s.blockBlank offset = true ↔
    ∀ k < 128, tableGet 0xFF#8 s.flash (offset + k) = 0xFF#8 := by
  simp only [State.blockBlank, List.all_eq_true, List.mem_range, decide_eq_true_eq]
  rfl

section
variable {s : State}

/-- A live command is not in the replay. -/
theorem State.inReplay_executing {p : Bytes} (h : s.agent.state = .executing p) : s.inReplay = false := by
  simp [State.inReplay, h]

/-- A stored command is in the replay. -/
theorem State.inReplay_replaying {o n : Nat} {p : Option Bytes} (h : s.agent.state = .replaying o n p) :
    s.inReplay = true := by
  simp [State.inReplay, h]

/-- The erase of a block in progress. -/
theorem exec_flashEraseBlock {block : Nat} (hreset : s.inReset = false)
    (hlong : s.agent.long = some (.erasing block)) : exec .flashEraseBlock s = .next (s.eraseBlock block) := by
  simp [exec, execFlashEraseBlock, hreset, State.eraseStep, hlong]

/-- The end of a write in progress. -/
theorem exec_flashWriteEnd {block : Nat} {data : Bytes} (hreset : s.inReset = false)
    (hlong : s.agent.long = some (.writing block data)) : exec .flashWriteEnd s = .next
      ({ s with
          flash := tableSetAll erasedByte s.flash (block * 128) data
          agent.long := none }.finish .done []) := by
  simp [exec, execFlashWriteEnd, hreset, State.writeDone, hlong, Config.flashBlock]

/-- FLASH WRITE of 128 bytes that is not in the replay, by its offset and what the block holds (R176, R186). -/
theorem flashWriteBody_bytes {tag a b c d : Byte} {data : Bytes} (hlen : data.length = 128)
    (hlive : s.inReplay = false) :
    let offset := a.toNat * 16777216 + b.toNat * 65536 + c.toNat * 256 + d.toNat
    flashWriteBody (31#8 :: tag :: a :: b :: c :: d :: data) s =
      if offset % 128 ≠ 0 ∨ 1048576 ≤ offset then refuse s .range
      else if !s.blockBlank offset then refuse s .state
      else .goesOn { s with agent.long := some (.writing (offset / 128) data) } := by
  simp [flashWriteBody, argumentLength, arguments, hlen, hlive, numAt_four_cons, Config.flashBlock, Config.flashBytes]

end

/-- Settles O41: the erase and the write begin by their bodies, and end by the erase and the writing of one block. -/
theorem flashErasesAndWritesBlocks : Obligations.FlashErasesAndWritesBlocks := by
  unfold Obligations.FlashErasesAndWritesBlocks
  refine ⟨fun s => ⟨fun tag he => ?_, fun block hreset hlong => ?_⟩,
    fun s => ⟨fun tag a b c d data hlen he => ?_, fun block data p hreset hlong hstate => ?_⟩⟩
  · obtain ⟨-, -, hstate⟩ := id he
    have hrun : exec .flashErase s = .next (flashEraseBody [30#8, tag] s).settle :=
      exec_command he (commandRow_flashErase tag [])
    rw [hrun, flashEraseBody, if_neg (by simp [argumentLength, arguments]),
      if_neg (by simp [State.inReplay_executing hstate]), Ending.settle_goesOn]
  · refine ⟨tableErase s.flash (block * 128) 128, tableGet_tableErase _ _ _ _, fun hmore => ?_,
      fun hlast p hstate => ?_⟩
    · rw [exec_flashEraseBlock hreset hlong]
      exact congrArg _ (if_pos hmore)
    · rw [exec_flashEraseBlock hreset hlong]
      exact congrArg _ ((if_neg (Nat.not_lt.mpr hlast)).trans (Ending.settle_reply (by exact hstate) .done []))
  · intro p offset blank
    obtain ⟨-, -, hstate⟩ := id he
    have hrun : exec .flashWrite s = .next (flashWriteBody p s).settle := exec_command he (commandRow_flashWrite ..)
    have hblank : (!s.blockBlank offset) = true ↔ ¬ blank := by
      rw [Bool.not_eq_true', ← Bool.not_eq_true]
      exact not_congr (s.blockBlank_iff offset)
    rw [hrun, flashWriteBody_bytes hlen (State.inReplay_executing hstate)]
    refine ⟨fun hoffset => ?_, fun haligned hwithin hwritten => ?_, fun haligned hwithin hfree => ?_⟩
    · rw [if_pos hoffset, refuse_settle hstate]
    · rw [if_neg (by omega), if_pos (hblank.mpr hwritten), refuse_settle hstate]
    · rw [if_neg (by omega), if_neg (mt hblank.mp (not_not.mpr hfree)), Ending.settle_goesOn]
  · refine ⟨tableSetAll erasedByte s.flash (block * 128) data, ?_, fun hflash i => tableGet_tableSetAll hflash ..⟩
    rw [exec_flashWriteEnd hreset hlong]
    exact congrArg _ (Ending.settle_reply (by exact hstate) .done [])

/-! ## The boot replay -/

/-- The `k`th byte of a run of flash bytes (R186). -/
theorem State.getElem?_flashRun (s : State) (i : Nat) {n k : Nat} (h : k < n) :
    (s.flashRun i n)[k]? = some (tableGet 0xFF#8 s.flash (i + k)) := by
  simp only [State.flashRun, List.getElem?_map, List.getElem?_range h]
  rfl

/-- A run of flash bytes has the length it is read with. -/
theorem State.length_flashRun (s : State) (i n : Nat) : (s.flashRun i n).length = n := by
  simp [State.flashRun]

/-- The kind of a stored frame is the byte at its start (R159). -/
theorem State.frameKind_flashRun (s : State) (i : Nat) {n : Nat} (h : 0 < n) :
    frameKind (s.flashRun i n) = (tableGet 0xFF#8 s.flash i).toNat := by
  rw [frameKind, byteAt, List.getD_eq_getElem?_getD, s.getElem?_flashRun i h, Option.getD_some, Nat.add_zero]

/-- BOOT_REPLAY_FRAME out of reset at a frame start takes that frame start up. -/
theorem exec_bootReplayFrame {s : State} {o n : Nat} (hreset : s.inReset = false)
    (hstate : s.agent.state = .replaying o n none) : exec .bootReplayFrame s = .next (s.replayFrame o n) := by
  simp [exec, execBootReplayFrame, hreset, State.replayStep, hstate]

/-- A frame start of the replay in the words of R187: no room, end marker, bad frame or wrong kind, command. -/
theorem State.replayFrame_eq (s : State) (o n : Nat) :
    let byte := fun i => (tableGet 0xFF#8 s.flash i).toNat
    let length := byte (o + 4)
    let f := s.flashRun o (7 + length)
    s.replayFrame o n =
      if ¬ o + 7 + length ≤ 1048576 then s.failReplay (n + 1)
      else if byte o = 255 then s.endMarker n
      else if 240 < length ∨ receivedSum f ≠ 0xFFFF#16 ∨ byte o ≠ 4 then s.failReplay (n + 1)
      else (runCommand (framePayload f)
        { s with agent.state := .replaying (o + 7 + length) n (some (framePayload f)) }).settle := by
  intro byte length f
  have hkind : frameKind f = byte o := s.frameKind_flashRun o (by omega)
  have hnext : o + f.length = o + 7 + length := by rw [s.length_flashRun o, Nat.add_assoc]
  have hmarker : s.flashByte o = 0xFF#8 ↔ byte o = 255 := BitVec.toNat_inj.symm
  have hroom : Config.flashBytes < o + 7 ∨ Config.flashBytes < o + 7 + length ↔ ¬ o + 7 + length ≤ 1048576 := by
    simp only [Config.flashBytes]
    omega
  have hcommand : s.replayCommand o n f =
      (runCommand (framePayload f)
        { s with agent.state := .replaying (o + 7 + length) n (some (framePayload f)) }).settle := by
    rw [← hnext]
    rfl
  change (if Config.flashBytes < o + 7 ∨ Config.flashBytes < o + 7 + length then s.failReplay (n + 1)
    else if s.flashByte o = 0xFF#8 then s.endMarker n
    else if 240 < length ∨ receivedSum f ≠ 0xFFFF#16 then s.failReplay (n + 1)
    else if frameKind f ≠ 4 then s.failReplay (n + 1)
    else s.replayCommand o n f) = _
  simp only [hkind, hcommand, hroom, hmarker, ite_or]

/-- The row of a FLASH payload refuses it STATE in the replay (R175, R186). -/
theorem runCommand_flash_replaying {s : State} {o n : Nat} {q : Option Bytes} {p : Bytes}
    (hstate : s.agent.state = .replaying o n q)
    (hp : p.length = 2 ∧ byteAt p 0 = 30 ∨ p.length = 134 ∧ byteAt p 0 = 31) :
    runCommand p s = refuse s .state := by
  have hreplay := State.inReplay_replaying hstate
  rcases hp with ⟨hlen, hvector⟩ | ⟨hlen, hvector⟩
  · have hrow : commandRow p = .flashErase := by simp [commandRow, hlen, hvector]
    rw [runCommand_eq, hrow, CommandRow.body, flashEraseBody, argumentLength_eq, if_neg (by omega), if_pos hreplay]
  · have hrow : commandRow p = .flashWrite := by simp [commandRow, hlen, hvector]
    rw [runCommand_eq, hrow, CommandRow.body, flashWriteBody, argumentLength_eq, if_neg (by omega), if_pos hreplay]

/-- A row does not run while the agent executes no payload of it (log entry 7). -/
theorem State.runRow_of_other {s : State} {row : CommandRow} (h : ∀ p, s.executes p → commandRow p ≠ row)
    (body : Bytes → State → Ending) : s.runRow row body = s := by
  rcases s.runRow_cases row body with he | ⟨p, hp, hrow, -⟩
  · exact he
  · exact absurd hrow (h p hp)

/-- The command of a row runs the row on its body. -/
theorem exec_row (row : CommandRow) (s : State) : exec row.command s = .next (s.runRow row row.body) := by
  cases row <;> rfl

/-- The command, the row and the body that a list names belong together. -/
abbrev NamesBody (x : Instr × CommandRow × (Bytes → State → Ending)) : Prop :=
  x.1 = x.2.1.command ∧ x.2.2 = x.2.1.body

/-- Settles O20: the branches of a frame start, the ends of a stored command, and the body of each row. -/
theorem bootReplayRunsStoredFrames : Obligations.BootReplayRunsStoredFrames := by
  unfold Obligations.BootReplayRunsStoredFrames
  refine ⟨fun s o n hreset hstate => ?_, fun s o n p results status hstate => ⟨?_, fun hfailed => ?_⟩,
    fun p c row body hrow hmem => ?_⟩
  · intro byte room f failed ended running
    have hframe := (exec_bootReplayFrame hreset hstate).trans (congrArg Host.Outcome.next (s.replayFrame_eq o n))
    have hrun : room → byte o = 4 → byte (o + 4) ≤ 240 → receivedSum f = 0xFFFF#16 →
        exec .bootReplayFrame s = .next (runCommand (framePayload f) running).settle := by
      intro hroom hkind hlen hsum
      have hmarker : byte o ≠ 255 := by rw [hkind]; decide
      have hgood : ¬ (240 < byte (o + 4) ∨ receivedSum f ≠ 0xFFFF#16 ∨ byte o ≠ 4) :=
        not_or.mpr ⟨Nat.not_lt.mpr hlen, not_or.mpr ⟨not_not.mpr hsum, not_not.mpr hkind⟩⟩
      rw [hframe, if_neg (not_not.mpr hroom), if_neg hmarker, if_neg hgood]
    refine ⟨⟨s.length_flashRun .., fun i hi => s.getElem?_flashRun o hi⟩, fun hroom => ?_, fun hroom hmarker => ?_,
      fun hroom hmarker hbad => ?_, hrun, fun hroom hkind hlen hsum hflash => ?_⟩
    · rw [hframe, if_pos hroom]
      rfl
    · rw [hframe, if_neg (not_not.mpr hroom), if_pos hmarker]
      exact ⟨fun hready => congrArg _ (if_pos (decide_eq_true hready)),
        fun hready => congrArg _ (if_neg (mt of_decide_eq_true hready))⟩
    · rw [hframe, if_neg (not_not.mpr hroom), if_neg hmarker, if_pos hbad]
      rfl
    · rw [hrun hroom hkind hlen hsum, runCommand_flash_replaying (s := running) rfl hflash]
      rfl
  · rintro rfl
    exact State.finish_done_replaying hstate results
  · exact State.finish_failed_replaying hstate hfailed results
  · obtain ⟨rfl, rfl⟩ : c = row.command ∧ body = row.body :=
      List.forall_iff_forall_mem (p := NamesBody).mp (by repeat' constructor) _ hmem
    refine ⟨fun s he => exec_command he hrow, fun s => by rw [runCommand_eq, hrow], fun s hother => ?_⟩
    rw [exec_row, State.runRow_of_other hother]

/-! ## The queue of waiting commands -/

/-- `t` has the waiting commands of `s`. -/
def State.LeavesWaiting (s t : State) : Prop := t.pending = s.pending

@[simp] theorem State.leavesWaiting_iff (s t : State) : s.LeavesWaiting t ↔ t.pending = s.pending := Iff.rfl

theorem State.LeavesWaiting.trans {s t u : State} (h : s.LeavesWaiting t) (h' : t.LeavesWaiting u) :
    s.LeavesWaiting u := Eq.trans h' h

/-- A choice between two that leave the waiting commands. -/
theorem State.LeavesWaiting.ite {s t u : State} {choice : Prop} [Decidable choice] (ht : s.LeavesWaiting t)
    (hu : s.LeavesWaiting u) : s.LeavesWaiting (if choice then t else u) := by
  split
  · exact ht
  · exact hu

/-- A command that a test may refuse leaves the waiting commands when it leaves them otherwise. -/
theorem State.LeavesWaiting.unlessRefused {s : State} {v : ReplyStatus} {x : Ending} {refused : Prop}
    [Decidable refused] (h : s.LeavesWaiting x.state) :
    s.LeavesWaiting (if refused then refuse s v else x).state := by
  split
  · exact rfl
  · exact h

/-- A table write leaves the waiting commands when its writing does. -/
theorem State.LeavesWaiting.tableWrite {s w : State} (h : s.LeavesWaiting w) (es : List Bytes)
    (test : Bytes → Option ReplyStatus) : s.LeavesWaiting (tableWrite s es test w).state := by
  simp only [Machine.tableWrite]
  split
  · exact rfl
  · exact h

/-- A run of writes that leave the waiting commands leaves them. -/
theorem State.LeavesWaiting.foldl (f : State → Bytes → State) (hf : ∀ (s : State) e, s.LeavesWaiting (f s e))
    (es : List Bytes) (s : State) : s.LeavesWaiting (es.foldl f s) := by
  induction es generalizing s with
  | nil => exact rfl
  | cons e es ih => exact (hf s e).trans (ih _)

section
variable (s : State)

theorem State.followUse_waiting (u : State) : s.LeavesWaiting (s.followUse u) := .ite rfl rfl

theorem State.serviceOut_waiting (a : Nat) : s.LeavesWaiting (s.serviceOut a) := by
  have hleft : s.LeavesWaiting (s.leaveAttribution a) := .ite rfl (by simp)
  exact .ite rfl (by simpa [State.takeOut] using hleft)

theorem State.serviceIn_waiting (a : Nat) : s.LeavesWaiting (s.serviceIn a) := by
  have hreleased : s.LeavesWaiting (if 0 < (s.record a).dependents then s.queueRelease a else s) := .ite (by simp) rfl
  simpa [State.serviceIn] using hreleased

/-- The body of every row leaves the waiting commands. -/
theorem CommandRow.body_waiting (row : CommandRow) (p : Bytes) : s.LeavesWaiting (row.body p s).state := by
  cases row with
  | badVector | status | timeSet | loadBegin => exact .unlessRefused rfl
  | restartClear | restartFull | loadEnd | flashErase => exact .unlessRefused (.unlessRefused rfl)
  | flashWrite => exact .unlessRefused (.unlessRefused (.unlessRefused (.unlessRefused rfl)))
  | config =>
    have hconfigured : ∀ c, s.LeavesWaiting (s.configure c) := by simp
    exact .unlessRefused (.unlessRefused (hconfigured _))
  | setMode =>
    refine .unlessRefused ?_
    split
    · exact rfl
    · exact .ite rfl rfl
  | readCountersPort | readCountersSource => exact .unlessRefused (.unlessRefused (.ite rfl rfl))
  | classWrite => exact .unlessRefused (.unlessRefused (.tableWrite (by simp) ..))
  | templateWrite =>
    have hput := State.LeavesWaiting.foldl State.putTemplate (fun _ _ => rfl) (entriesOf 10 (arguments p)) s
    exact .unlessRefused (.unlessRefused (.tableWrite hput ..))
  | assetWrite =>
    have hput := State.LeavesWaiting.foldl State.putAsset (fun _ _ => rfl) (entriesOf 8 (arguments p)) s
    exact .unlessRefused (.unlessRefused (.tableWrite (by simpa using hput) ..))
  | trunkWrite =>
    have hput := State.LeavesWaiting.foldl State.putTrunk (fun _ _ => rfl) (entriesOf 7 (arguments p)) s
    exact .unlessRefused (.unlessRefused (.tableWrite (hput.trans (State.followUse_waiting ..)) ..))
  | queryAsset => exact .unlessRefused (.unlessRefused (.unlessRefused (.ite (by simp) rfl)))
  | queryList =>
    refine .unlessRefused (.unlessRefused (.unlessRefused ?_))
    split
    · exact rfl
    · split <;> exact rfl
  | ackFault =>
    have hcleared : ∀ a, s.LeavesWaiting (s.clearLatch a) := by simp
    exact .unlessRefused (.unlessRefused (.unlessRefused (.unlessRefused (hcleared _))))
  | ackRestored =>
    have hqueued : ∀ zone, s.LeavesWaiting (s.queueAck zone) := by simp
    refine .unlessRefused (.unlessRefused ?_)
    split
    · exact rfl
    · exact .unlessRefused (hqueued _)
  | setServiceOut | setServiceIn =>
    refine .unlessRefused (.unlessRefused (.unlessRefused ?_))
    split
    · exact s.serviceOut_waiting _
    · exact .unlessRefused (.unlessRefused (s.serviceIn_waiting _))
  | stormOn | stormOff =>
    have hon : ∀ f, s.LeavesWaiting (s.startStorm f) := by simp [State.startStorm]
    have hoff : s.LeavesWaiting s.endStorm := .ite rfl (by simp)
    refine .unlessRefused (.unlessRefused ?_)
    split
    · exact hon _
    · exact hoff
  | escArm =>
    refine .unlessRefused ?_
    split <;> exact rfl
  | escAck =>
    refine .unlessRefused ?_
    split
    · exact rfl
    · exact rfl
    · exact .unlessRefused rfl
    · exact .unlessRefused rfl

/-- A command's end leaves the waiting commands. -/
theorem State.finish_waiting (v : ReplyStatus) (r : Bytes) : s.LeavesWaiting (s.finish v r) := by simp

/-- A reply leaves the waiting commands. -/
theorem Ending.settle_waiting (e : Ending) : e.state.LeavesWaiting e.settle := by
  cases e with
  | reply s v r => exact s.finish_waiting v r
  | goesOn s => rfl

/-- The step of every row leaves the waiting commands. -/
theorem State.runRow_waiting (row : CommandRow) : s.LeavesWaiting (s.runRow row row.body) := by
  rcases s.runRow_cases row row.body with he | ⟨p, -, -, he⟩ <;> rw [he]
  · exact rfl
  · exact (row.body_waiting s p).trans (Ending.settle_waiting _)

/-! ### The steps -/

theorem State.loseLine_waiting : s.LeavesWaiting s.loseLine := by
  simp only [State.loseLine]
  split
  · simp
  · exact rfl
  · exact rfl

theorem State.regainLine_waiting : s.LeavesWaiting s.regainLine := by
  simp only [State.regainLine]
  split
  · exact .ite rfl (by simp)
  all_goals exact rfl

theorem State.receiveField_waiting (f : Bytes) : s.LeavesWaiting (s.receiveField f) := by
  have hreport : ∀ t : State, t.LeavesWaiting (t.handReport f) := fun t => by
    have hforwarded : t.LeavesWaiting (if t.agent.mode = .correlate then t else t.forwardUp f) := .ite rfl (by simp)
    simpa [State.handReport] using hforwarded
  have hhanded : ∀ t : State, t.LeavesWaiting (t.handField f) := fun t => .ite (hreport t) (.ite (by simp) rfl)
  have hqualified : s.LeavesWaiting ((s.countField f (judge f)).qualifyLink (judge f)) := by simp
  exact .ite (hqualified.trans (hhanded _)) hqualified

theorem State.receiveDispatch_waiting (f : Bytes) : s.LeavesWaiting (s.receiveDispatch f) := by
  have hcommand : ∀ t : State, t.LeavesWaiting (t.handCommand f) := fun t => .ite (by simp) (by simp)
  have hhanded : ∀ t : State, t.LeavesWaiting (t.handDispatch f) := fun t =>
    .ite (hcommand t) (.ite (.ite (by simp) (by simp)) rfl)
  have hcounted : s.LeavesWaiting (s.countDispatch f (judge f)) := by simp
  exact .ite (hcounted.trans (hhanded _)) hcounted

theorem State.replayStep_waiting : s.LeavesWaiting s.replayStep := by
  have hfailed : ∀ k, s.LeavesWaiting (s.failReplay k) := by simp
  have hmarker : ∀ k, s.LeavesWaiting (s.endMarker k) := fun k => .ite (by simp) (hfailed _)
  have hran : ∀ o n f, s.LeavesWaiting (s.replayCommand o n f) := fun o n f => by
    rw [State.replayCommand, runCommand_eq]
    have hreplaying : s.LeavesWaiting
      { s with agent.state := .replaying (o + f.length) n (some (framePayload f)) } := rfl
    exact (hreplaying.trans (CommandRow.body_waiting ..)).trans (Ending.settle_waiting _)
  simp only [State.replayStep]
  split
  · exact .ite (hfailed _) (.ite (hmarker _) (.ite (hfailed _) (.ite (hfailed _) (hran ..))))
  all_goals exact rfl

theorem State.clearingDone_waiting : s.LeavesWaiting s.clearingDone := by
  have hended : ∀ toReady, s.LeavesWaiting (s.endRestart toReady) := fun _ => .ite rfl rfl
  simp only [State.clearingDone]
  split
  · exact (hended _).trans (State.finish_waiting ..)
  all_goals exact rfl

theorem State.validationDone_waiting : s.LeavesWaiting s.validationDone := by
  have hserved : ∀ n, s.LeavesWaiting (s.enterService n) := fun n => by
    obtain ⟨table, heq, -⟩ := s.enterService_eq n
    rw [heq]
    exact rfl
  simp only [State.validationDone, State.endValidation]
  split
  · split
    · exact (hserved _).trans (State.finish_waiting ..)
    · simp
  all_goals exact rfl

theorem State.eraseStep_waiting : s.LeavesWaiting s.eraseStep := by
  simp only [State.eraseStep]
  split
  · exact .ite rfl (by simp)
  all_goals exact rfl

theorem State.writeDone_waiting : s.LeavesWaiting s.writeDone := by
  simp only [State.writeDone]
  split
  · simp
  all_goals exact rfl

end

/-- Every command answers a next state and leaves the waiting commands. -/
theorem exec_waiting (c : Instr) (s : State) : ∃ t, exec c s = .next t ∧ s.LeavesWaiting t := by
  cases c with
  | resetAssert | powerOnResetRelease => exact ⟨_, rfl, rfl⟩
  | initEnd => exact ⟨_, rfl, .ite (by simp [State.endInit]) rfl⟩
  | timeBaseAdvance => exact ⟨_, rfl, .ite rfl (.ite rfl rfl)⟩
  | linkWatchdogExpiry | sourceSilent => exact ⟨_, rfl, .ite (by simp) rfl⟩
  | lineSignalLoss => exact ⟨_, rfl, .ite (State.loseLine_waiting _) rfl⟩
  | lineSignalReturn => exact ⟨_, rfl, .ite (State.regainLine_waiting _) rfl⟩
  | fPortFrameReceived frame => exact ⟨_, rfl, .ite (s.receiveField_waiting _) rfl⟩
  | dPortFrameReceived frame => exact ⟨_, rfl, .ite (s.receiveDispatch_waiting _) rfl⟩
  | fPortFrameSent => exact ⟨_, rfl, .ite (by simp [State.finishDown]) rfl⟩
  | dPortFrameSent | scannerVisit => exact ⟨_, rfl, .ite (by simp) rfl⟩
  | sweepStep => exact ⟨_, rfl, .ite rfl (by simp)⟩
  | bootReplayFrame => exact ⟨_, rfl, .ite rfl s.replayStep_waiting⟩
  | clearingEnd => exact ⟨_, rfl, .ite rfl s.clearingDone_waiting⟩
  | validationEnd => exact ⟨_, rfl, .ite rfl s.validationDone_waiting⟩
  | flashEraseBlock => exact ⟨_, rfl, .ite rfl s.eraseStep_waiting⟩
  | flashWriteEnd => exact ⟨_, rfl, .ite rfl s.writeDone_waiting⟩
  | mgmtBadVector | status | config | timeSet | setMode | restartClear | restartFull | readCountersPort
  | readCountersSource | loadBegin | loadEnd | classWrite | templateWrite | assetWrite | trunkWrite | queryAsset
  | queryList | ackFault | ackRestored | setServiceOut | setServiceIn | stormOn | stormOff | escArm | escAck
  | flashErase | flashWrite => exact ⟨_, rfl, s.runRow_waiting _⟩

/-! ## Commands whose step cannot occur -/

section
variable {s : State}

/-- In reset no row runs (log entry 14). -/
theorem State.runRow_inReset (h : s.inReset = true) (row : CommandRow) (body : Bytes → State → Ending) :
    s.runRow row body = s :=
  State.runRow_of_other (fun _ ⟨hreset, _, _⟩ _ => Bool.false_ne_true (hreset.symm.trans h)) body

/-- In reset every command but its assertion, its release and the line signal changes nothing (log entry 14). -/
theorem exec_inReset (h : s.inReset = true) {c : Instr} (hassert : c ≠ .resetAssert)
    (hrelease : ∀ node modePins boot, c ≠ .powerOnResetRelease node modePins boot) (hloss : c ≠ .lineSignalLoss)
    (hreturn : c ≠ .lineSignalReturn) : exec c s = .next s := by
  have hreceiving : ¬ s.receiving = true := State.not_receiving (.inl h)
  have hscanner : ¬ s.scannerRuns = true := by simp [State.scannerRuns, h]
  cases c with
  | resetAssert => exact absurd rfl hassert
  | powerOnResetRelease => exact absurd rfl (hrelease _ _ _)
  | lineSignalLoss => exact absurd rfl hloss
  | lineSignalReturn => exact absurd rfl hreturn
  | timeBaseAdvance | sweepStep | bootReplayFrame | clearingEnd | validationEnd | flashEraseBlock | flashWriteEnd =>
    exact congrArg _ (if_pos h)
  | initEnd | linkWatchdogExpiry | sourceSilent | fPortFrameSent | dPortFrameSent =>
    exact congrArg _ (if_neg (by simp [h]))
  | fPortFrameReceived | dPortFrameReceived => exact congrArg _ (if_neg (mt And.left hreceiving))
  | scannerVisit => exact congrArg _ (if_neg (mt And.left hscanner))
  | mgmtBadVector | status | config | timeSet | setMode | restartClear | restartFull | readCountersPort
  | readCountersSource | loadBegin | loadEnd | classWrite | templateWrite | assetWrite | trunkWrite | queryAsset
  | queryList | ackFault | ackRestored | setServiceOut | setServiceIn | stormOn | stormOff | escArm | escAck
  | flashErase | flashWrite => exact congrArg _ (State.runRow_inReset h ..)

/-- With no long command in progress none ends. -/
theorem State.noLong_ends (h : s.agent.long = none) :
    s.clearingDone = s ∧ s.validationDone = s ∧ s.eraseStep = s ∧ s.writeDone = s := by
  simp [State.clearingDone, State.validationDone, State.eraseStep, State.writeDone, h]

/-- With no replay at a frame start none is taken up. -/
theorem State.replayStep_other (h : ∀ o n, s.agent.state ≠ .replaying o n none) : s.replayStep = s := by
  simp only [State.replayStep]
  split
  · next o n hstate => exact absurd hstate (h o n)
  all_goals exact rfl

/-- With no job the sweep does nothing. -/
theorem State.sweepOnce_empty (h : s.sweep.jobs = []) : s.sweepOnce = s := by simp [State.sweepOnce, h]

end

/-- Settles O2: every command by `exec_waiting`, the steps that cannot occur one by one, and the part in reset. -/
theorem everyCommandCompletes : Obligations.EveryCommandCompletes := by
  unfold Obligations.EveryCommandCompletes
  refine ⟨exec_waiting, fun s => ⟨fun hinit => ?_, fun hlong => ?_, fun hidle => ?_, fun hidle => ?_, fun hstart => ?_,
    fun hjobs => ?_⟩, fun c s h => exec_inReset h⟩
  · exact congrArg _ (if_neg (mt And.right hinit))
  · obtain ⟨hclearing, hvalidation, herase, hwrite⟩ := State.noLong_ends hlong
    exact ⟨congrArg _ (ite_eq_left_iff.mpr fun _ => hclearing), congrArg _ (ite_eq_left_iff.mpr fun _ => hvalidation),
      congrArg _ (ite_eq_left_iff.mpr fun _ => herase), congrArg _ (ite_eq_left_iff.mpr fun _ => hwrite)⟩
  · exact congrArg _ (if_neg (mt And.right (not_not.mpr hidle)))
  · exact congrArg _ (if_neg (mt And.right (not_not.mpr hidle)))
  · exact congrArg _ (ite_eq_left_iff.mpr fun _ => State.replayStep_other hstart)
  · exact congrArg _ (ite_eq_left_iff.mpr fun _ => State.sweepOnce_empty hjobs)

end Sys2Proof.Machine

/-! The step (95_what_each_step_holds.md): its two equations, one for each form of the queue of waiting commands. -/

namespace Sys2Proof.Machine

/-- With a command waiting, the step is that command's effect, which finds the queue's rest. -/
theorem step_of_pending_cons {c : Instr} {rest : List Instr} {s : State} (h : s.pending = c :: rest) :
    step s = exec c { s with pending := rest } := by
  rw [step, h]

/-- With no command waiting the part idles (log entry 13). -/
theorem step_of_pending_nil {s : State} (h : s.pending = []) : step s = .next s := by
  rw [step, h]

/-- Settles O1: the step by whether a command waits. -/
theorem stepRunsFrontCommand : Obligations.StepRunsFrontCommand := by
  unfold Obligations.StepRunsFrontCommand
  exact ⟨fun _ _ _ => step_of_pending_cons, fun _ => step_of_pending_nil⟩

end Sys2Proof.Machine

namespace Sys2Proof.Machine

/-! Power and start-up (11_the_management_agent.md, R185): the reset, its release, the end of INIT, and what the state after
reset meets. -/

/-- Settles O4: the reset's four lines, and the power-on values read off the released state. -/
theorem resetHoldsAndReleaseSetsEveryBlock : Obligations.ResetHoldsAndReleaseSetsEveryBlock := by
  unfold Obligations.ResetHoldsAndReleaseSetsEveryBlock
  refine ⟨fun s => ⟨rfl, fun t h => ?_⟩, fun node modePins boot s hnode hpins => ⟨_, rfl, ?_⟩⟩
  · obtain rfl := Host.Outcome.next.inj h
    exact ⟨rfl, rfl, rfl, rfl⟩
  · have hnode : node % 64 = node := Nat.mod_eq_of_lt hnode
    clear hpins
    have hmode : strapMode modePins = match modePins with | 0 => .passThrough | 1 => .monitor | _ => .correlate := by
      match modePins with
      | 0 | 1 | n + 2 => rfl
    rw [hnode, hmode]
    exact ⟨rfl, rfl, rfl, rfl, rfl, rfl, rfl, rfl, rfl, rfl, rfl, rfl, rfl, rfl, fun _ => rfl, rfl, rfl, rfl, rfl, rfl, rfl,
      rfl, rfl, fun _ => rfl, rfl, rfl, rfl, rfl, rfl, rfl, rfl⟩

/-- Settles O5: the agent's start by the boot strap. -/
theorem initEndEntersLoading : Obligations.InitEndEntersLoading := by
  unfold Obligations.InitEndEntersLoading
  intro s hreset hinit
  have hend : exec .initEnd s = .next s.endInit := by simp [exec, execInitEnd, hreset, hinit]
  rw [hend]
  refine ⟨fun hboot => ?_, fun hboot => ?_⟩
  · simp [State.endInit, State.agentStart, State.linkStart, hboot]
  · simp [State.endInit, State.agentStart, State.linkStart, hboot, State.takeCommand]

/-- Settles O60: every memory, queue and count is empty after reset. -/
theorem resetMeetsEveryInvariant : Obligations.ResetMeetsEveryInvariant := by
  unfold Obligations.ResetMeetsEveryInvariant
  have canonical : State.reset.Canonical := by
    constructor <;> exact ⟨.nil, fun _ h => nomatch h⟩
  have quiet : State.reset.QuietUnlessReady :=
    ⟨nofun, nofun, fun _ => ⟨rfl, rfl, rfl, rfl⟩⟩
  have attributed : State.reset.Attributed :=
    ⟨canonical.records, fun _ h => absurd rfl h, fun _ => rfl, rfl, fun _ => ⟨nofun, nofun⟩, .nil⟩
  have ordered : State.reset.SweepOrdered := by
    constructor <;> simp [State.reset, powerOnState]
  have service : State.reset.ServiceSound := ⟨canonical, quiet, nofun, nofun⟩
  refine ⟨canonical, ?_, ?_, ordered, quiet, service, ⟨canonical, quiet, nofun, fun _ => rfl⟩, attributed, ?_⟩
  · constructor
    case config => constructor <;> decide
    all_goals decide
  · constructor <;> simp [State.reset, powerOnState]
  · exact ⟨attributed, ordered, service, nofun, nofun, nofun, nofun, fun _ _ => rfl, .inl rfl, fun _ => rfl⟩

/-! ## The ancestor walk -/

/-- `p` ends a walk that steps over `x`: masking-faulted, and not the asset stepped over (R14, R48). -/
def State.endsWalk (s : State) (x : Option Nat) (p : Nat) : Prop := s.maskingFaulted p = true ∧ x ≠ some p

/-- An asset under its chain of parents, nearest first. -/
abbrev State.ParentChain (s : State) (a : Nat) (chain : List Nat) : Prop :=
  (a :: chain).IsChain fun child parent => (s.asset child).parent = some parent

section
variable {s : State} {x : Option Nat}

/-- One link of the walk. -/
theorem ancestorWithin_link {a p : Nat} (h : (s.asset a).parent = some p) (links : Nat) :
    (s.endsWalk x p → ancestorWithin s x (links + 1) a = some p) ∧
    (¬ s.endsWalk x p → ancestorWithin s x (links + 1) a = ancestorWithin s x links p) := by
  simp only [ancestorWithin, h]
  exact ⟨fun hp => if_pos hp, fun hp => if_neg hp⟩

/-- The walk finds the first of the chain that ends it, where it lies within the links. -/
theorem ancestorWithin_nearest {chain : List Nat} {a links k p : Nat} (hchain : s.ParentChain a chain)
    (hk : chain[k]? = some p) (hlinks : k < links) (hbefore : ∀ j < k, ∀ q, chain[j]? = some q → ¬ s.endsWalk x q)
    (hp : s.endsWalk x p) : ancestorWithin s x links a = some p := by
  induction chain generalizing a links k with
  | nil => simp at hk
  | cons q chain ih =>
    obtain ⟨hparent, hrest⟩ := List.isChain_cons_cons.mp hchain
    obtain ⟨links, rfl⟩ : ∃ n, links = n + 1 := ⟨links - 1, by omega⟩
    obtain ⟨hends, hgoes⟩ := ancestorWithin_link (x := x) hparent links
    cases k with
    | zero =>
      obtain rfl : q = p := by simpa using hk
      exact hends hp
    | succ k =>
      rw [hgoes (hbefore 0 (by omega) q rfl)]
      exact ih hrest (by simpa using hk) (by omega) fun j hj r hr => hbefore (j + 1) (by omega) r (by simpa using hr)

/-- The walk finds nothing where none of the chain ends it and the chain takes all the links, or ends at a parent of none. -/
theorem ancestorWithin_none {chain : List Nat} {a links : Nat} (hchain : s.ParentChain a chain)
    (hlength : chain.length ≤ links) (hnone : ∀ p ∈ chain, ¬ s.endsWalk x p)
    (hend : chain.length = links ∨ (s.asset (chain.getLast?.getD a)).parent = none) :
    ancestorWithin s x links a = none := by
  induction chain generalizing a links with
  | nil =>
    cases links with
    | zero => rfl
    | succ links => simp_all [ancestorWithin]
  | cons q chain ih =>
    obtain ⟨hparent, hrest⟩ := List.isChain_cons_cons.mp hchain
    obtain ⟨links, rfl⟩ : ∃ n, links = n + 1 := ⟨links - 1, by simp at hlength; omega⟩
    rw [(ancestorWithin_link hparent links).2 (hnone q (List.mem_cons_self ..))]
    refine ih hrest (by simpa using hlength) (fun p hp => hnone p (List.mem_cons_of_mem _ hp)) ?_
    simpa [List.getLast?_cons] using hend

/-- A chain given link by link. -/
theorem State.parentChain_of_links {a : Nat} {chain : List Nat} (h : ∀ k p : Nat, chain[k]? = some p →
    (s.asset (if k = 0 then a else chain.getD (k - 1) 0)).parent = some p) : s.ParentChain a chain := by
  refine List.isChain_iff_getElem.mpr fun k hk => ?_
  have hk : k < chain.length := by simpa using hk
  have hlink := h k chain[k] (List.getElem?_eq_getElem hk)
  cases k with
  | zero => simpa using hlink
  | succ k => simpa [List.getD, Nat.lt_of_succ_lt hk] using hlink

end

/-- Faulted, in the words of R3. -/
theorem FaultRecord.faulted_iff (r : FaultRecord) :
    r.faulted = true ↔ r.condition = .fault ∨ r.condition = .recovering ∨ r.condition = .silent := by
  cases h : r.condition <;> simp [FaultRecord.faulted, Condition.faulted, h]

/-- Masking-faulted, in the words of R3. -/
theorem State.maskingFaulted_iff (s : State) (a : Nat) : s.maskingFaulted a = true ↔
    (s.classOf a).masking = true ∧ ((s.record a).faulted = true ∨ (s.record a).condition = .outOfService) := by
  simp [State.maskingFaulted]

/-- Settles O42: the walk along the chain, with nothing and with the root stepped over. -/
theorem ancestorWalkFindsTheNearest : Obligations.AncestorWalkFindsTheNearest := by
  unfold Obligations.AncestorWalkFindsTheNearest
  refine ⟨fun s a chain hlength hlinks => ?_, fun s a => ⟨?_, ?_, ?_⟩⟩
  · have hchain := State.parentChain_of_links hlinks
    have hplace : ∀ {k p : Nat}, chain[k]? = some p → k < 4 := fun hk =>
      Nat.lt_of_lt_of_le (List.getElem?_eq_some_iff.mp hk).1 hlength
    have hpassed : ∀ {root q : Nat}, q = root ∨ s.maskingFaulted q = false → ¬ s.endsWalk (some root) q := by
      rintro root q (rfl | hq) ⟨hmasking, hne⟩
      · exact hne rfl
      · simp_all
    refine ⟨fun k p hk hbefore hp => ?_, fun hnone hend => ?_, fun root =>
      ⟨fun k p hk hbefore hp hne => ?_, fun hnone hend => ?_⟩⟩
    · exact ancestorWithin_nearest hchain hk (hplace hk)
        (fun j hj q hq hends => absurd hends.1 (by simp [hbefore j hj q hq])) ⟨hp, nofun⟩
    · exact ancestorWithin_none hchain hlength (fun p hp hends => absurd hends.1 (by simp [hnone p hp])) hend
    · exact ancestorWithin_nearest hchain hk (hplace hk) (fun j hj q hq => hpassed (hbefore j hj q hq))
        ⟨hp, fun h => hne (Option.some.inj h).symm⟩
    · exact ancestorWithin_none hchain hlength (fun p hp => hpassed (hnone p hp)) hend
  · exact (s.record a).faulted_iff
  · simp [FaultRecord.independent, FaultRecord.faulted_iff]
  · rw [s.maskingFaulted_iff, FaultRecord.faulted_iff]

end Sys2Proof.Machine

/-! What every step keeps of the memories and the capacities (R1, R29, R31, R41, R49, R85, R104, R111, R126, R127, R145, R152,
R163, R166, R186): a relation between two states that each operation of the model meets, and that two operations in a row
meet when each does. -/

namespace Sys2Proof.Machine

/-! ## The capacities, block by block -/

/-- The F-port within its capacities. -/
structure FieldPort.Fits (p : FieldPort) : Prop where
  down : p.down.length ≤ 16
  receive : p.receive.length ≤ 247
  counters : ∀ c ∈ [p.counters.good, p.counters.checkFailures, p.counters.malformed, p.counters.wrongDirection,
    p.counters.uncorrelated, p.counters.downOverflows, p.counters.transmitted], c ≤ 65535

/-- The D-port within its capacities and ranges. -/
structure DispatchPort.Fits (p : DispatchPort) : Prop where
  receive : p.receive.length ≤ 247
  up : p.up.length ≤ 16
  sequence : p.sequence < 256
  noticeNumber : p.noticeNumber < 65536
  counters : ∀ c ∈ [p.counters.good, p.counters.checkFailures, p.counters.malformed, p.counters.wrongDirection,
    p.counters.upOverflows, p.counters.noticesSent, p.counters.repliesSent, p.counters.forwardedSent], c ≤ 65535

/-- The Notice Queue within its places, and its counters in range. -/
structure NoticeQueue.Fits (q : NoticeQueue) : Prop where
  places : q.entries.length ≤ 256
  evicted : q.evicted ≤ 65535
  dropped : q.dropped ≤ 65535

/-- The agent's Command Queue within its places, and its registers in range. -/
structure ManagementAgent.Fits (a : ManagementAgent) : Prop where
  queue : a.queue.length ≤ 4
  overruns : a.overruns ≤ 65535
  config : a.config.InRange
  time : a.time ≤ 4294967295

/-- The Sweep Queue within its places, and its counter in range. -/
structure SweepEngine.Fits (e : SweepEngine) : Prop where
  places : e.jobs.length ≤ 8
  adoptDrops : e.adoptDrops ≤ 65535

/-- The storm buckets and the manual floor in range. -/
structure StormMonitor.Fits (m : StormMonitor) : Prop where
  buckets : ∀ e ∈ m.buckets, e.2.count ≤ 4095
  manualFloor : m.manualFloor ≤ 31

/-- A source's counters and sequences in range. -/
structure SourceEntry.Fits (e : SourceEntry) : Prop where
  counters : ∀ c ∈ e.counters, c ≤ 65535
  sequences : ∀ q ∈ e.expected.toList ++ e.lastAccepted.toList, q < 256

/-- A record's flap score and times in range. -/
structure FaultRecord.Fits (r : FaultRecord) : Prop where
  flapScore : r.flapScore ≤ 65535
  times : ∀ t ∈ r.times, t ≤ 4294967295

/-- Every block within its capacities and ranges. -/
structure State.Fitting (s : State) : Prop where
  fport : s.fport.Fits
  dport : s.dport.Fits
  notices : s.notices.Fits
  agent : s.agent.Fits
  sweep : s.sweep.Fits
  storm : s.storm.Fits
  sources : ∀ e ∈ s.sources.table, e.2.Fits
  records : ∀ e ∈ s.correlator.records, e.2.Fits
  linkRun : s.link.run ≤ 14
  scan : s.scan < 32768
  assetCount : s.tables.assetCount ≤ 32768
  resumeTime : s.correlator.resumeTime ≤ 4294967295

/-- The invariant of the capacities is that of the blocks. -/
theorem State.withinCapacity_iff (s : State) : s.WithinCapacity ↔ s.Fitting := by
  constructor
  · intro h
    have hcounters := h.portCounters
    simp only [State.portCounters, List.forall_mem_cons] at hcounters
    obtain ⟨f1, f2, f3, f4, f5, f6, f7, d1, d2, d3, d4, d5, d6, d7, d8, hevicted, hdropped, hdrops, hoverruns, -⟩ :=
      hcounters
    exact {
      fport := ⟨h.forwardDown, h.fieldBuffer, by simp [f1, f2, f3, f4, f5, f6, f7]⟩
      dport := ⟨h.dispatchBuffer, h.forwardUp, h.transmitSequence, h.noticeNumber,
        by simp [d1, d2, d3, d4, d5, d6, d7, d8]⟩
      notices := ⟨h.noticeQueue, hevicted, hdropped⟩
      agent := ⟨h.commandQueue, hoverruns, h.config, h.timeBase⟩
      sweep := ⟨h.sweepQueue, hdrops⟩
      storm := ⟨h.bucketCounts, h.manualFloor⟩
      sources := fun e he => ⟨h.sourceCounters e he, h.sourceSequences e he⟩
      records := fun e he => ⟨h.flapScores e he, h.recordTimes e he⟩
      linkRun := h.linkRun
      scan := h.scanPosition
      assetCount := h.assetCount
      resumeTime := h.resumeTime }
  · intro h
    have hfield := h.fport.counters
    have hdispatch := h.dport.counters
    simp only [List.forall_mem_cons] at hfield hdispatch
    exact {
      commandQueue := h.agent.queue
      sweepQueue := h.sweep.places
      noticeQueue := h.notices.places
      forwardUp := h.dport.up
      forwardDown := h.fport.down
      fieldBuffer := h.fport.receive
      dispatchBuffer := h.dport.receive
      transmitSequence := h.dport.sequence
      noticeNumber := h.dport.noticeNumber
      portCounters := by
        simp [State.portCounters, hfield, hdispatch, h.notices.evicted, h.notices.dropped, h.sweep.adoptDrops,
          h.agent.overruns]
      sourceCounters := fun e he => (h.sources e he).counters
      sourceSequences := fun e he => (h.sources e he).sequences
      flapScores := fun e he => (h.records e he).flapScore
      bucketCounts := h.storm.buckets
      linkRun := h.linkRun
      scanPosition := h.scan
      assetCount := h.assetCount
      manualFloor := h.storm.manualFloor
      config := h.agent.config
      recordTimes := fun e he => (h.records e he).times
      timeBase := h.agent.time
      resumeTime := h.resumeTime }

/-! ## Values in a memory -/

section
variable {α : Type} {P : α → Prop} {d : α} {t : Table α}

/-- What holds of the unlisted value and of every listed one holds of each value read. -/
theorem tableGet_of_forall (hd : P d) (h : ∀ e ∈ t, P e.2) (i : Nat) : P (tableGet d t i) := by
  rcases tableGet_mem d t i with hm | hm
  · exact h _ hm
  · rwa [hm]

variable [DecidableEq α]

/-- What holds of every listed value and of a written one holds of every listed value after the write. -/
theorem forall_tableSet (h : ∀ e ∈ t, P e.2) {x : α} (hx : P x) (i : Nat) : ∀ e ∈ tableSet d t i x, P e.2 := by
  intro e he
  rcases mem_tableSet he with ⟨rfl, -⟩ | he
  · exact hx
  · exact h e he

/-- What holds of every listed value, and of each after its change, holds of every listed value after the change of all. -/
theorem forall_tableMap {f : Nat → α → α} (h : ∀ e ∈ t, P e.2) (hf : ∀ i x, P x → P (f i x)) :
    ∀ e ∈ tableMap d f t, P e.2 := by
  intro e he
  obtain ⟨a, ha, rfl⟩ := List.mem_map.mp (List.mem_filter.mp he).1
  exact hf _ _ (h a ha)

end

/-- A counter stops at 65,535 (R31). -/
theorem countUp_le (n k : Nat) : countUp n k ≤ 65535 := Nat.min_le_left ..

theorem unusedSource_fits : unusedSource.Fits := ⟨by decide, nofun⟩

theorem clearRecord_fits : clearRecord.Fits := ⟨by decide, by decide⟩

/-- The change of every source keeps the canonical form, and what holds of every listed entry. -/
theorem changeSources_keeps {P : SourceEntry → Prop} {f : Nat → SourceEntry → SourceEntry} {t : Table SourceEntry} :
    (Table.wf unusedSource t → Table.wf unusedSource (changeSources f t)) ∧
    (P unusedSource → (∀ n e, P e → P (f n e)) → (∀ e ∈ t, P e.2) → ∀ e ∈ changeSources f t, P e.2) := by
  have hfold : ∀ (keys : List Nat) (t : Table SourceEntry),
      let changed := keys.foldl (fun t n => tableSet unusedSource t n (f n (tableGet unusedSource t n))) t
      (Table.wf unusedSource t → Table.wf unusedSource changed) ∧
      (P unusedSource → (∀ n e, P e → P (f n e)) → (∀ e ∈ t, P e.2) → ∀ e ∈ changed, P e.2) := by
    intro keys
    induction keys with
    | nil => exact fun t => ⟨id, fun _ _ h => h⟩
    | cons n keys ih =>
      intro t
      obtain ⟨hwf, hall⟩ := ih (tableSet unusedSource t n (f n (tableGet unusedSource t n)))
      exact ⟨fun w => hwf (tableSet_wf w ..), fun hd hf h =>
        hall hd hf (forall_tableSet h (hf n _ (tableGet_of_forall hd h n)) n)⟩
  exact hfold _ t

/-! ## The relation -/

/-- `t` has its memories canonical if those of `s` were, and is within the capacities if `s` was. -/
structure State.Fits (s t : State) : Prop where
  canonical : s.Canonical → t.Canonical
  capacity : s.Fitting → t.Fitting

theorem State.Fits.refl (s : State) : s.Fits s := ⟨id, id⟩

theorem State.Fits.trans {s t u : State} (h : s.Fits t) (h' : t.Fits u) : s.Fits u :=
  ⟨h'.canonical ∘ h.canonical, h'.capacity ∘ h.capacity⟩

/-- A choice between two that fit. -/
theorem State.Fits.ite {s t u : State} {choice : Prop} [Decidable choice] (ht : choice → s.Fits t)
    (hu : ¬ choice → s.Fits u) : s.Fits (if choice then t else u) := by
  split
  · next h => exact ht h
  · next h => exact hu h

/-- A relation that needs the capacities of its first state alone. -/
theorem State.Fits.given {s t : State} (hc : s.Canonical → t.Canonical) (h : s.Fitting → s.Fits t) : s.Fits t :=
  ⟨hc, fun hs => (h hs).capacity hs⟩

section
variable {s : State}

/-! ### One block changed -/

theorem State.Fits.fport {p : FieldPort} (h : s.fport.Fits → p.Fits) : s.Fits { s with fport := p } :=
  ⟨fun hc => { hc with }, fun hs => { hs with fport := h hs.fport }⟩

theorem State.Fits.dport {p : DispatchPort} (h : s.dport.Fits → p.Fits) : s.Fits { s with dport := p } :=
  ⟨fun hc => { hc with }, fun hs => { hs with dport := h hs.dport }⟩

theorem State.Fits.notices {q : NoticeQueue} (h : s.notices.Fits → q.Fits) : s.Fits { s with notices := q } :=
  ⟨fun hc => { hc with }, fun hs => { hs with notices := h hs.notices }⟩

theorem State.Fits.agent {a : ManagementAgent} (h : s.agent.Fits → a.Fits) : s.Fits { s with agent := a } :=
  ⟨fun hc => { hc with }, fun hs => { hs with agent := h hs.agent }⟩

theorem State.Fits.sweep {e : SweepEngine} (h : s.sweep.Fits → e.Fits) : s.Fits { s with sweep := e } :=
  ⟨fun hc => { hc with }, fun hs => { hs with sweep := h hs.sweep }⟩

theorem State.Fits.link {l : LinkQualifier} (h : s.Fitting → l.run ≤ 14) : s.Fits { s with link := l } :=
  ⟨fun hc => { hc with }, fun hs => { hs with linkRun := h hs }⟩

theorem State.Fits.board (b : List Nat) : s.Fits { s with board := b } :=
  ⟨fun hc => { hc with }, fun hs => { hs with }⟩

theorem State.Fits.escalation (e : Escalation) : s.Fits { s with escalation := e } :=
  ⟨fun hc => { hc with }, fun hs => { hs with }⟩

theorem State.Fits.due (l : List Nat) : s.Fits { s with sources.due := l } :=
  ⟨fun hc => { hc with }, fun hs => { hs with }⟩

theorem State.Fits.scanAt {n : Nat} (h : s.Fitting → n < 32768) : s.Fits { s with scan := n } :=
  ⟨fun hc => { hc with }, fun hs => { hs with scan := h hs }⟩

theorem State.Fits.correlatorState (c : CorrelatorState) : s.Fits { s with correlator.state := c } :=
  ⟨fun hc => { hc with }, fun hs => { hs with }⟩

theorem State.Fits.independentCount (n : Nat) : s.Fits { s with correlator.independentCount := n } :=
  ⟨fun hc => { hc with }, fun hs => { hs with }⟩

theorem State.Fits.initialising (b : Bool) : s.Fits { s with initialising := b } :=
  ⟨fun hc => { hc with }, fun hs => { hs with }⟩

theorem State.Fits.records {t : Table FaultRecord} (hc : s.Canonical → Table.wf clearRecord t)
    (h : s.Fitting → ∀ e ∈ t, e.2.Fits) : s.Fits { s with correlator.records := t } :=
  ⟨fun hs => { hs with records := hc hs }, fun hs => { hs with records := h hs }⟩

theorem State.Fits.sources {t : Table SourceEntry} (hc : s.Canonical → Table.wf unusedSource t)
    (h : s.Fitting → ∀ e ∈ t, e.2.Fits) : s.Fits { s with sources.table := t } :=
  ⟨fun hs => { hs with sources := hc hs }, fun hs => { hs with sources := h hs }⟩

theorem State.Fits.storm {m : StormMonitor} (hc : s.Canonical → Table.wf emptyBucket m.buckets)
    (h : s.storm.Fits → m.Fits) : s.Fits { s with storm := m } :=
  ⟨fun hs => { hs with buckets := hc hs }, fun hs => { hs with storm := h hs.storm }⟩

theorem State.Fits.flash {m : Memory} (h : s.Canonical → Memory.wf m) : s.Fits { s with flash := m } :=
  ⟨fun hs => { hs with flash := h hs }, fun hs => { hs with }⟩

theorem State.Fits.tables {t : LoadedTables} (htrunks : s.Canonical → Table.wf none t.trunks)
    (hassets : s.Canonical → Table.wf unwrittenAsset t.assets) (hclasses : s.Canonical → Table.wf none t.classes)
    (htemplates : s.Canonical → Table.wf invalidTemplate t.templates)
    (hcount : s.tables.assetCount ≤ 32768 → t.assetCount ≤ 32768) : s.Fits { s with tables := t } :=
  ⟨fun hs => { hs with trunks := htrunks hs, assets := hassets hs, classes := hclasses hs, templates := htemplates hs },
    fun hs => { hs with assetCount := hcount hs.assetCount }⟩

/-- The agent changed where its registers and its overruns stay, and its queue does not grow. -/
theorem State.Fits.agentState {a : ManagementAgent} (hq : a.queue.length ≤ s.agent.queue.length)
    (ho : a.overruns = s.agent.overruns) (hc : a.config = s.agent.config) (ht : a.time = s.agent.time) :
    s.Fits { s with agent := a } :=
  .agent fun h => ⟨hq.trans h.queue, ho ▸ h.overruns, hc ▸ h.config, ht ▸ h.time⟩

/-- A record changed by what keeps the ranges of its fields, while the time base is in range. -/
theorem State.Fits.modRecord {a : Nat} {f : FaultRecord → FaultRecord}
    (h : s.agent.time ≤ 4294967295 → (s.record a).Fits → (f (s.record a)).Fits) : s.Fits (s.modRecord a f) :=
  .records (fun hs => tableSet_wf hs.records ..) fun hs =>
    forall_tableSet hs.records (h hs.agent.time (tableGet_of_forall clearRecord_fits hs.records a)) a

/-- A record changed in no field that has a range of its own. -/
theorem State.Fits.modRecord_plain (a : Nat) {f : FaultRecord → FaultRecord}
    (h : ∀ r, (f r).flapScore = r.flapScore ∧ (f r).times = r.times) : s.Fits (s.modRecord a f) :=
  .modRecord fun _ hr => ⟨(h _).1.trans_le hr.flapScore, (h _).2.symm ▸ hr.times⟩

/-- A source changed by what keeps the ranges of its fields. -/
theorem State.Fits.modSource {n : Nat} {f : SourceEntry → SourceEntry} (h : (s.source n).Fits → (f (s.source n)).Fits) :
    s.Fits (s.modSource n f) :=
  .sources (fun hs => tableSet_wf hs.sources ..) fun hs =>
    forall_tableSet hs.sources (h (tableGet_of_forall unusedSource_fits hs.sources n)) n

end

/-! ## The ports -/

section
variable (s : State)

theorem State.takeCommand_fits : s.Fits s.takeCommand := by
  simp only [State.takeCommand]
  split
  · next hqueue => exact .agentState (by simp [hqueue]) rfl rfl rfl
  · exact .refl s

theorem State.queueCommand_fits (f : Bytes) : s.Fits (s.queueCommand f) := by
  refine .ite (fun _ => .agent fun h => { h with overruns := countUp_le .. }) fun hplace => ?_
  have hjoined : s.Fits { s with agent.queue := s.agent.queue ++ [f] } :=
    .agent fun h => { h with queue := by simp [Config.commandPlaces] at hplace ⊢; omega }
  exact hjoined.trans (State.takeCommand_fits _)

theorem State.replyChosen_fits : s.Fits s.replyChosen := by
  have hidle : s.Fits { s with agent.state := .idle } := .agentState le_rfl rfl rfl rfl
  exact .ite (fun _ => hidle.trans (State.takeCommand_fits _)) fun _ => .refl s

theorem State.sendReply_fits (p : Bytes) : s.Fits (s.sendReply p) := by
  have hsent : s.Fits { s.sendOwn kindReply p with
      dport.reply := none, dport.counters.repliesSent := countUp s.dport.counters.repliesSent 1 } :=
    .dport fun h => ⟨h.receive, h.up, Nat.mod_lt _ (by decide), h.noticeNumber, by
      have := h.counters
      simp_all [countUp_le, State.sendOwn]⟩
  exact hsent.trans (State.replyChosen_fits _)

theorem State.sendNotice_fits (n : Notice) : s.Fits (s.sendNotice n) := by
  have hleft : s.Fits { s with notices.entries := s.notices.entries.erase n } :=
    .notices fun h => { h with places := (List.erase_sublist ..).length_le.trans h.places }
  exact hleft.trans (.dport fun h => ⟨h.receive, h.up, Nat.mod_lt _ (by decide), Nat.mod_lt _ (by decide), by
    have := h.counters
    simp_all [countUp_le]⟩)

theorem State.sendForward_fits {f : Bytes} {rest : List Bytes} (hup : s.dport.up = f :: rest) :
    s.Fits (s.sendForward f rest) :=
  .dport fun h => ⟨h.receive, by have := h.up; simp [hup] at this ⊢; omega, h.sequence, h.noticeNumber, by
    have := h.counters
    simp_all [countUp_le]⟩

theorem State.chooseBelowReply_fits : s.Fits s.chooseBelowReply := by
  simp only [State.chooseBelowReply]
  split
  · next hup =>
    exact .ite (fun _ => s.sendNotice_fits _) fun _ =>
      .ite (fun _ => s.sendForward_fits hup) fun _ => s.sendNotice_fits _
  · exact s.sendNotice_fits _
  · next hup => exact s.sendForward_fits hup
  · exact .dport fun h => { h with }

theorem State.choose_fits : s.Fits s.choose := by
  simp only [State.choose]
  split
  · exact s.sendReply_fits _
  · exact s.chooseBelowReply_fits

theorem State.offerDispatch_fits : s.Fits s.offerDispatch := .ite (fun _ => s.choose_fits) fun _ => .refl s

theorem State.placeReply_fits (p : Bytes) : s.Fits (s.placeReply p) := by
  have hplaced : s.Fits { s with dport.reply := some p } := .dport fun h => { h with }
  exact hplaced.trans (State.offerDispatch_fits _)

theorem State.forwardUp_fits (f : Bytes) : s.Fits (s.forwardUp f) := by
  refine .ite (fun _ => ?_) fun hplace => ?_
  · exact .dport fun h => { h with counters := by have := h.counters; simp_all [countUp_le] }
  · have hjoined : s.Fits { s with dport.up := s.dport.up ++ [f] } :=
      .dport fun h => { h with up := by simp [Config.fifoPlaces] at hplace ⊢; omega }
    exact hjoined.trans (State.offerDispatch_fits _)

theorem State.takeDown_fits : s.Fits s.takeDown := by
  simp only [State.takeDown]
  split
  · next hdown => exact .fport fun h => { h with down := by have := h.down; simp [hdown] at this ⊢; omega }
  · exact .fport fun h => { h with }

theorem State.forwardDown_fits (f : Bytes) : s.Fits (s.forwardDown f) := by
  refine .ite (fun hplace => ?_) fun _ => ?_
  · have hjoined : s.Fits { s with fport.down := s.fport.down ++ [f] } :=
      .fport fun h => { h with down := by rw [State.downHasPlace_iff] at hplace; simpa using hplace }
    exact .ite (fun _ => hjoined.trans (State.takeDown_fits _)) fun _ => hjoined
  · exact .fport fun h => { h with counters := by have := h.counters; simp_all [countUp_le] }

theorem State.countField_fits (f : Bytes) (j : Judgement) : s.Fits (s.countField f j) := by
  have hkept : (f.take Config.receiveBytes).length ≤ 247 := by simp [Config.receiveBytes]
  simp only [State.countField]
  split <;> exact .fport fun h => { h with receive := hkept, counters := by have := h.counters; simp_all [countUp_le] }

theorem State.countDispatch_fits (f : Bytes) (j : Judgement) : s.Fits (s.countDispatch f j) := by
  have hkept : (f.take Config.receiveBytes).length ≤ 247 := by simp [Config.receiveBytes]
  simp only [State.countDispatch]
  split <;> exact .dport fun h => { h with receive := hkept, counters := by have := h.counters; simp_all [countUp_le] }

/-! ## Notices, storm and escalation -/

/-- A merge takes no place. -/
theorem length_coalesce {n : Notice} {es es' : List Notice} (h : coalesce n es = some es') : es'.length = es.length := by
  induction es generalizing es' with
  | nil => exact nomatch h
  | cons e es ih =>
    simp only [coalesce] at h
    split at h
    · simp [← Option.some.inj h]
    · obtain ⟨merged, hmerged, rfl⟩ := Option.map_eq_some_iff.mp h
      simp [ih hmerged]

/-- An admission leaves the Notice Queue within its places (R104). -/
theorem NoticeQueue.Fits.admitted {q : NoticeQueue} (h : q.Fits) {n : Notice} (hn : n.priority ≤ 31) :
    (admitNotice n q).Fits := by
  have hplaces := h.places
  by_cases hroom : q.entries.length < 256
  · rw [admitNotice, if_pos (by exact hroom)]
    exact { h with places := by simpa using hroom }
  · rw [admitNotice_full (Nat.not_lt.mp hroom)]
    split
    · next hlow =>
      have hlen := length_dropYoungest_lowest (Nat.lt_of_lt_of_le hlow hn)
      exact ⟨by simp; omega, countUp_le .., h.dropped⟩
    · exact { h with dropped := countUp_le .. }

theorem State.arrive_fits {n : Notice} (hn : n.priority ≤ 31) : s.Fits (s.arrive n) := by
  have harrived : s.Fits { s with notices := arriveAt n s.notices } := by
    refine .notices fun h => ?_
    simp only [arriveAt]
    split
    · next hmerged => exact { h with places := (length_coalesce hmerged).trans_le h.places }
    · exact h.admitted hn
  exact harrived.trans (State.offerDispatch_fits _)

theorem State.requestAsset_fits (k : NoticeKind) (a : Nat) (c : Condition) (v : Severity) (r : Option Nat) (n : Nat) :
    s.Fits (s.requestAsset k a c v r n) :=
  .ite (fun _ => s.arrive_fits (Nat.min_le_left ..)) fun _ => .refl s

theorem State.requestFromRecord_fits (k : NoticeKind) (a n : Nat) : s.Fits (s.requestFromRecord k a n) :=
  s.requestAsset_fits ..

theorem State.withdraw_fits (a : Nat) : s.Fits (s.withdraw a) :=
  .notices fun h => { h with places := (List.length_filter_le ..).trans h.places }

theorem State.offerStorm_fits : s.Fits s.offerStorm := by
  have hcounted : s.Fits { s with storm.buckets := countQualification s.storm.buckets (s.now / 10) } :=
    .storm (fun h => tableSet_wf h.buckets ..) fun h =>
      { h with buckets := forall_tableSet (P := fun b : Bucket => b.count ≤ 4095) h.buckets (Nat.min_le_left ..) _ }
  refine .ite (fun _ => ?_) fun _ => hcounted
  have hauto : ∀ t : State, t.Fits { t with storm.state := .auto } := fun t =>
    .storm (fun h => h.buckets) fun h => { h with }
  exact (hcounted.trans (hauto _)).trans (State.arrive_fits _ le_rfl)

theorem State.raise_fits (c : EscalationContext) : s.Fits (s.raise c) :=
  (State.Fits.escalation _).trans (State.arrive_fits _ le_rfl)

theorem State.offerEscalation_fits (k : NoticeKind) (a : Nat) : s.Fits (s.offerEscalation k a) := by
  by_cases he : s.escalation = .armed
  · rw [State.offerEscalation_armed he]
    exact .ite (fun _ => .ite (fun _ => s.raise_fits _) fun _ => .escalation _) fun _ => .refl s
  · rw [State.offerEscalation_of_ne he]
    exact .refl s

theorem State.stormEnded_fits : s.Fits s.stormEnded := by
  simp only [State.stormEnded]
  split
  · exact s.raise_fits _
  all_goals exact .refl s

/-! ## Records, the list and the jobs -/

theorem State.attribute_fits (e r : Nat) : s.Fits (s.attribute e r) :=
  have hcaused : s.Fits (s.modRecord e fun x => { x with cause := some r }) := .modRecord_plain e fun _ => ⟨rfl, rfl⟩
  hcaused.trans (.modRecord_plain r fun _ => ⟨rfl, rfl⟩)

theorem State.unattribute_fits (e : Nat) : s.Fits (s.unattribute e) := by
  simp only [State.unattribute]
  split
  · exact .refl s
  · have hfreed : s.Fits (s.modRecord e fun x => { x with cause := none }) := .modRecord_plain e fun _ => ⟨rfl, rfl⟩
    exact hfreed.trans (.modRecord_plain _ fun _ => ⟨rfl, rfl⟩)

/-- A time of a record is one of its five. -/
theorem FaultRecord.forall_times (r : FaultRecord) (P : Nat → Prop) : (∀ t ∈ r.times, P t) ↔
    (∀ t ∈ r.lastHeard, P t) ∧ (∀ t ∈ r.qualifiedAt, P t) ∧ (∀ t ∈ r.joinedAt, P t) ∧ (∀ t ∈ r.testUntil, P t) ∧
      P r.flapStamp := by
  simp [FaultRecord.times, or_imp, forall_and]

theorem State.join_fits (a : Nat) : s.Fits (s.join a) := by
  refine .ite (fun _ => .refl s) fun _ => ?_
  have hstamped : s.Fits (s.modRecord a fun r => { r with joinedAt := some s.now }) := by
    refine .modRecord fun hnow hr => ⟨hr.flapScore, ?_⟩
    have htimes := hr.times
    rw [FaultRecord.forall_times] at htimes ⊢
    simp_all [State.now]
  exact hstamped.trans (.board _)

theorem State.leave_fits (a : Nat) : s.Fits (s.leave a) := by
  refine .ite (fun _ => ?_) fun _ => .refl s
  have herased : s.Fits { s with board := s.board.erase a } := .board _
  exact herased.trans (.sweep fun h => { h with places := by simpa using h.places })

theorem State.leaveUnlessListed_fits (a : Nat) : s.Fits (s.leaveUnlessListed a) :=
  .ite (fun _ => .refl s) fun _ => s.leave_fits a

theorem State.clearLatch_fits (a : Nat) : s.Fits (s.clearLatch a) :=
  have hcleared : s.Fits (s.modRecord a fun r => { r with latch := .clear }) := .modRecord_plain a fun _ => ⟨rfl, rfl⟩
  hcleared.trans (State.leaveUnlessListed_fits _ a)

/-- The jobs changed to no more of them. -/
theorem State.Fits.jobs {s : State} {js : List SweepJob} (h : js.length ≤ s.sweep.jobs.length) :
    s.Fits { s with sweep.jobs := js } := .sweep fun hs => { hs with places := h.trans hs.places }

theorem State.startFirst_fits : s.Fits s.startFirst := by
  simp only [State.startFirst]
  split
  · exact .refl s
  · next hjobs => exact .ite (fun _ => .jobs (by simp [hjobs])) fun _ => .refl s

theorem State.joinJob_fits (w : Walk) (hroom : s.sweep.jobs.length < 8) : s.Fits (s.joinJob w) := by
  have hjoined : s.Fits { s with sweep.jobs := s.sweep.jobs ++ [waitingJob w] } :=
    .sweep fun h => { h with places := by simpa using hroom }
  exact hjoined.trans (State.startFirst_fits _)

theorem State.removeJob_fits (w : Walk) : s.Fits (s.removeJob w) := by
  have hremoved : s.Fits { s with sweep.jobs := s.sweep.jobs.filter fun j => decide (j.walk ≠ w) } :=
    .jobs (List.length_filter_le ..)
  exact hremoved.trans (State.startFirst_fits _)

theorem State.endAdopt_fits (r : Nat) : s.Fits (s.endAdopt r) := by
  refine .ite (fun _ => ?_) fun _ => .refl s
  exact .ite (fun _ => (s.removeJob_fits _).trans (State.requestFromRecord_fits ..)) fun _ => s.removeJob_fits _

theorem State.cancelReleaseIfMasking_fits (a : Nat) : s.Fits (s.cancelReleaseIfMasking a) :=
  .ite (fun _ => .ite (fun _ => s.removeJob_fits _) fun _ => .refl s) fun _ => .refl s

/-- A queue that is not full has a place. -/
theorem State.jobs_lt_of_not_full {s : State} (h : ¬ s.sweepFull = true) : s.sweep.jobs.length < 8 := by
  rwa [State.sweepFull_iff, Nat.not_le, State.walks, List.length_map] at h

theorem State.requestAdopt_fits (r : Nat) : s.Fits (s.requestAdopt r) := by
  refine .ite (fun _ => .refl s) fun _ => .ite (fun _ => ?_) fun hfull => ?_
  · exact .sweep fun h => { h with adoptDrops := countUp_le .. }
  · exact s.joinJob_fits _ (State.jobs_lt_of_not_full hfull)

/-- The end of a queued ADOPT frees a place. -/
theorem State.length_endAdopt_lt {s : State} {root : Nat} (h : s.hasJob (.adopt root) = true) :
    (s.endAdopt root).sweep.jobs.length < s.sweep.jobs.length := by
  rw [State.hasJob_iff] at h
  have hshorter : (s.endAdopt root).walks.length < s.walks.length := by
    rw [State.endAdopt_walks h, List.length_filter_lt_length_iff_exists]
    exact ⟨_, h, by simp⟩
  simpa [State.walks] using hshorter

theorem State.queueRelease_fits {r : Nat} (hplace : s.releaseRefused r = false) : s.Fits (s.queueRelease r) := by
  refine .ite (fun hadopt => ?_) fun hadopt => .ite (fun _ => .refl s) fun hrelease => ?_
  · have hended := s.endAdopt_fits r
    have hshorter := State.length_endAdopt_lt hadopt
    have hjoined : s.sweep.jobs.length ≤ 8 → (s.endAdopt r).Fits ((s.endAdopt r).joinJob (.release r)) := fun h =>
      State.joinJob_fits _ _ (by omega)
    have hwaits : (s.endAdopt r).Canonical → ((s.endAdopt r).joinJob (.release r)).Canonical := fun h =>
      ⟨by simpa using h.records, by simpa using h.trunks, by simpa using h.assets, by simpa using h.classes,
        by simpa using h.templates, by simpa using h.sources, by simpa using h.buckets, by simpa using h.flash⟩
    exact .given (hwaits ∘ hended.canonical) fun h => hended.trans (hjoined h.sweep.places)
  · refine s.joinJob_fits _ (State.jobs_lt_of_not_full fun hfull => ?_)
    simp [State.releaseRefused, hadopt, hrelease, hfull] at hplace

theorem State.queueAck_fits {z : Option Nat} (hplace : ¬ (!s.hasAck ∧ s.sweepFull)) : s.Fits (s.queueAck z) := by
  refine .ite (fun _ => .jobs (by simp)) fun hack => s.joinJob_fits _ (State.jobs_lt_of_not_full fun hfull => ?_)
  exact hplace (by simp [hack, hfull])

theorem State.raiseTally_fits : s.Fits s.raiseTally := by
  simp only [State.raiseTally]
  split
  · exact .refl s
  · next hjobs => exact .jobs (by simp [hjobs])

theorem State.moveWalk_fits (n : Option Nat) : s.Fits (s.moveWalk n) := by
  simp only [State.moveWalk]
  split
  · exact .refl s
  · next hjobs => exact .jobs (by simp [hjobs])

/-! ## The Sweep Engine -/

theorem State.countIndependent_fits : s.Fits s.countIndependent := .independentCount _

theorem State.uncountIndependent_fits : s.Fits s.uncountIndependent := .independentCount _

theorem State.modLatch_fits (a : Nat) (l : Latch) : s.Fits (s.modRecord a fun r => { r with latch := l }) :=
  .modRecord_plain a fun _ => ⟨rfl, rfl⟩

theorem State.adopt_fits (r e : Nat) : s.Fits (s.adopt r e) :=
  ((((s.attribute_fits e r).trans (State.modLatch_fits _ e .clear)).trans (State.withdraw_fits _ e)).trans
    (State.uncountIndependent_fits _)).trans (State.raiseTally_fits _)

theorem State.unmask_fits (e : Nat) : s.Fits (s.unmask e) :=
  (((s.unattribute_fits e).trans (State.countIndependent_fits _)).trans (State.modLatch_fits _ e .held)).trans
    (State.requestFromRecord_fits ..)

theorem State.visit_fits (w : Walk) (e : Nat) : s.Fits (s.visit w e) := by
  refine (s.moveWalk_fits (s.successor e)).trans ?_
  cases w with
  | adopt root => exact .ite (fun _ => State.adopt_fits ..) fun _ => .refl _
  | release root =>
    refine .ite (fun _ => ?_) fun _ => .refl _
    split
    · exact (State.unattribute_fits ..).trans (State.attribute_fits ..)
    · exact State.unmask_fits ..
  | ack zone => exact .ite (fun _ => State.clearLatch_fits ..) fun _ => .refl _

theorem State.sweepOnce_fits : s.Fits s.sweepOnce := by
  simp only [State.sweepOnce]
  split
  · exact .refl s
  · next j _ _ =>
    refine .ite (fun _ => s.removeJob_fits _) fun _ => ?_
    split
    · cases hw : j.walk with
      | adopt root => exact s.endAdopt_fits root
      | release | ack => exact s.removeJob_fits _
    · exact s.visit_fits ..

/-! ## The Correlator -/

theorem State.requestAdoptIfMasking_fits (a : Nat) : s.Fits (s.requestAdoptIfMasking a) :=
  .ite (fun _ => s.requestAdopt_fits a) fun _ => .refl s

theorem State.standAlone_fits (k : NoticeKind) (a : Nat) : s.Fits (s.standAlone k a) := by
  rw [State.standAlone_eq]
  have hheld : s.Fits (s.modRecord a fun r => { r with latch := .held }).countIndependent :=
    (s.modLatch_fits a .held).trans (State.countIndependent_fits _)
  exact (((((hheld.trans (State.requestAsset_fits ..)).trans (State.offerStorm_fits _)).trans
    (State.offerEscalation_fits ..)).trans (State.join_fits ..)).trans (State.requestAdoptIfMasking_fits ..))

/-- A record that takes the time base as its time of qualification. -/
theorem State.enterFault_fits (a : Nat) (c : Condition) (v : Severity) : s.Fits (s.enterFault a c v) := by
  have hentered : s.Fits (s.modRecord a fun r =>
      { r with condition := c, run := 0, severity := v, qualifiedAt := some s.now }) := by
    refine .modRecord fun hnow hr => ⟨hr.flapScore, ?_⟩
    have htimes := hr.times
    rw [FaultRecord.forall_times] at htimes ⊢
    simp_all [State.now]
  exact hentered.trans (State.cancelReleaseIfMasking_fits _ a)

theorem State.qualify_fits (a : Nat) (c : Condition) (v : Severity) (k : NoticeKind) : s.Fits (s.qualify a c v k) := by
  refine (s.enterFault_fits a c v).trans ?_
  simp only [State.qualify]
  split
  · exact (State.attribute_fits ..).trans (State.join_fits ..)
  · exact State.standAlone_fits ..

theorem State.settleRestored_fits (a : Nat) (v : Severity) (n : Nat) (b : Bool) : s.Fits (s.settleRestored a v n b) :=
  .ite (fun _ => s.uncountIndependent_fits.trans (State.requestAsset_fits ..)) fun _ => s.unattribute_fits a

/-- A restore that needs no RELEASE, or has a place for it (R19). -/
theorem State.restore_fits {a : Nat} (h : ¬ (0 < (s.record a).dependents ∧ s.releaseRefused a)) : s.Fits (s.restore a) := by
  set normal := s.modRecord a fun r => { r with condition := .normal, run := 0, severity := .none }
  have hnormal : s.Fits normal := .modRecord_plain a fun _ => ⟨rfl, rfl⟩
  have hreleased : s.Fits (if 0 < (s.record a).dependents then normal.queueRelease a else normal) :=
    .ite (fun hdependents => hnormal.trans (normal.queueRelease_fits (Bool.eq_false_iff.mpr fun hrefused =>
      h ⟨hdependents, hrefused⟩))) fun _ => hnormal
  exact ((hreleased.trans (State.settleRestored_fits ..)).trans (State.leaveUnlessListed_fits _ a)).trans
    (State.endAdopt_fits _ a)

theorem State.attemptRestore_fits (a : Nat) : s.Fits (s.attemptRestore a) :=
  .ite (fun _ => .refl s) fun h => s.restore_fits h

theorem State.refresh_fits (a : Nat) (i : Item) (n : Nat) : s.Fits (s.refresh a i n) := by
  refine .modRecord fun hnow hr => ⟨hr.flapScore, ?_⟩
  have htimes := hr.times
  rw [FaultRecord.forall_times] at htimes ⊢
  simp_all [State.now]

/-- A decay raises no score, and advances the stamp no further than the later of it and now (R35). -/
theorem flapDecay_le (halfLife score stamp now : Nat) :
    (flapDecay halfLife score stamp now).1 ≤ score ∧ (flapDecay halfLife score stamp now).2 ≤ max stamp now := by
  simp only [flapDecay]
  split
  · exact ⟨Nat.zero_le _, Nat.le_max_right ..⟩
  · have hlives := Nat.div_mul_le_self (elapsed stamp now) halfLife
    exact ⟨Nat.div_le_self .., by simp only [elapsed] at hlives ⊢; omega⟩

/-- A scored record stays in its ranges (R31, R35, R36). -/
theorem FaultRecord.Fits.scored {r : FaultRecord} (h : r.Fits) {now : Nat} (hnow : now ≤ 4294967295) (c : ClassEntry)
    (v : Status) : (scoreRecord c now v r).Fits := by
  obtain ⟨hscore, hstamp⟩ := flapDecay_le c.halfLife r.flapScore r.flapStamp now
  have htimes := h.times
  refine ⟨?_, ?_⟩
  · simp only [scoreRecord, flapAdd]
    split
    · exact countUp_le ..
    · exact hscore.trans h.flapScore
  · rw [FaultRecord.forall_times] at htimes ⊢
    obtain ⟨hheard, hqualified, hjoined, htest, hold⟩ := htimes
    exact ⟨hheard, hqualified, hjoined, htest, hstamp.trans (max_le hold hnow)⟩

theorem State.scoreFlap_fits (a : Nat) (v : Status) : s.Fits (s.scoreFlap a v) := by
  have hscored : s.Fits (s.modRecord a (scoreRecord (s.classOf a) s.now v)) := .modRecord fun hnow hr => hr.scored hnow _ v
  exact .ite (fun _ => hscored) fun _ => hscored.trans (State.requestFromRecord_fits ..)

theorem State.takeSeverity_fits (a : Nat) (v : Severity) : s.Fits (s.takeSeverity a v) := by
  have htaken : s.Fits (s.modRecord a fun r => { r with condition := .fault, run := 0, severity := v }) :=
    .modRecord_plain a fun _ => ⟨rfl, rfl⟩
  exact .ite (fun _ => htaken.trans (State.requestAsset_fits ..)) fun _ => htaken

theorem State.suspect_fits (a n : Nat) (v : Severity) : s.Fits (s.suspect a n v) :=
  .ite (fun _ => s.qualify_fits ..) fun _ => .modRecord_plain a fun _ => ⟨rfl, rfl⟩

theorem State.recover_fits (a n : Nat) : s.Fits (s.recover a n) := by
  have hrecovering : s.Fits (s.modRecord a fun r =>
      { r with condition := .recovering, run := min n (s.classOf a).restoreCount }) :=
    .modRecord_plain a fun _ => ⟨rfl, rfl⟩
  exact .ite (fun _ => hrecovering.trans (State.attemptRestore_fits _ a)) fun _ => hrecovering

theorem State.runMachine_fits (a : Nat) (st : Status) : s.Fits (s.runMachine a st) := by
  have hnotOk : ∀ v, s.Fits (s.machineNotOk a v) := by
    intro v
    simp only [State.machineNotOk]
    split
    case h_1 | h_2 | h_3 => exact s.suspect_fits ..
    case h_4 | h_5 | h_6 => exact s.takeSeverity_fits ..
    case h_7 => exact .refl s
  cases st with
  | ok =>
    simp only [State.runMachine, State.machineOk]
    split
    case h_1 | h_2 | h_3 => exact .modRecord_plain a fun _ => ⟨rfl, rfl⟩
    case h_4 | h_5 | h_6 => exact s.recover_fits ..
    case h_7 => exact .refl s
  | degraded | failed => exact hnotOk _

theorem State.judgeItem_fits (a : Nat) (st : Status) : s.Fits (s.judgeItem a st) :=
  .ite (fun _ => .refl s) fun _ => (s.scoreFlap_fits a st).trans (State.runMachine_fits ..)

theorem State.processItem_fits (a : Nat) (i : Item) (st : Status) (n : Nat) : s.Fits (s.processItem a i st n) := by
  have hrefreshed := s.refresh_fits a i n
  have hended : (s.refresh a i n).Fits ((s.refresh a i n).modRecord a fun r => { r with testUntil := none }) := by
    refine .modRecord fun _ hr => ⟨hr.flapScore, ?_⟩
    have htimes := hr.times
    rw [FaultRecord.forall_times] at htimes ⊢
    simp_all
  refine .ite (fun _ => .ite (fun _ => hrefreshed.trans (State.judgeItem_fits ..)) fun _ => ?_) fun _ =>
    (hrefreshed.trans hended).trans (State.judgeItem_fits ..)
  exact hrefreshed.trans (.modSource fun h => ⟨by
    have := h.counters
    simp_all [SourceEntry.counters, countUp_le], h.sequences⟩)

theorem State.silenceStanding_fits (a : Nat) : s.Fits (s.silenceStanding a) := by
  have hsilent : s.Fits (s.modRecord a fun r => { r with condition := .silent, run := 0, severity := .major }) :=
    .modRecord_plain a fun _ => ⟨rfl, rfl⟩
  exact .ite (fun _ => hsilent.trans (State.requestAsset_fits ..)) fun _ => hsilent

theorem State.goSilent_fits (a : Nat) : s.Fits (s.goSilent a) := by
  simp only [State.goSilent]
  split
  case h_1 | h_2 => exact s.silenceStanding_fits a
  all_goals exact s.qualify_fits ..

theorem State.scanOnce_fits : s.Fits s.scanOnce := by
  have hmoved : s.Fits { s with scan := if s.scan + 1 < s.tables.assetCount then s.scan + 1 else 0 } := by
    refine .scanAt fun h => ?_
    have := h.assetCount
    split <;> omega
  exact .ite (fun _ => hmoved.trans (State.goSilent_fits ..)) fun _ => hmoved

theorem State.setHoldoff_fits (a : Nat) : s.Fits (s.setHoldoff a) := by
  refine .ite (fun _ => .modRecord fun _ hr => ⟨hr.flapScore, ?_⟩) fun _ => .refl s
  have htimes := hr.times
  have htop : ∀ t d, timePlus t d ≤ 4294967295 := fun t d => Nat.min_le_left ..
  rw [FaultRecord.forall_times] at htimes ⊢
  simp_all

/-! ## The link and its sources -/

theorem State.resume_fits : s.Fits s.resume :=
  ⟨fun hc => { hc with }, fun hs => { hs with resumeTime := hs.agent.time }⟩

theorem State.enterPass_fits : s.Fits s.enterPass := by
  have hpassed : s.Fits { s with
      link.state := .pass, link.run := 0, link.passedAt := some s.now, link.watchdogDue := false } :=
    .link fun _ => Nat.zero_le _
  have hforgotten : ∀ t : State, t.Fits { t with
      sources.table := tableMap unusedSource (fun _ e => e.forgetSequence) t.sources.table } := fun t =>
    .sources (fun h => tableMap_wf h.sources _) fun h =>
      forall_tableMap h.sources fun _ _ he => ⟨he.counters, nofun⟩
  exact ((hpassed.trans (State.resume_fits _)).trans (hforgotten _)).trans (State.arrive_fits _ le_rfl)

theorem State.leavePass_fits (l : LinkState) : s.Fits (s.leavePass l) := by
  have hleft : s.Fits { s with link.state := l, link.run := 0, link.watchdogDue := false } :=
    .link fun _ => Nat.zero_le _
  exact hleft.trans (State.arrive_fits _ le_rfl)

theorem State.passIfRun_fits : s.Fits s.passIfRun := .ite (fun _ => s.enterPass_fits) fun _ => .refl s

theorem State.hearGood_fits : s.Fits s.hearGood := .link State.Fitting.linkRun

/-- A QUALIFYING run that does not reach N, which is at most 15, is at most 14 (R145, R178). -/
theorem State.qualifyLink_fits (j : Judgement) : s.Fits (s.qualifyLink j) := by
  simp only [State.qualifyLink]
  split
  · next hqualifying =>
    let heard : State := { s.hearGood with link.run := s.link.run + 1 }
    show s.Fits heard.passIfRun
    by_cases hreached : s.agent.config.passThreshold ≤ s.link.run + 1
    · have hpasses : heard.passIfRun = s.hearGood.enterPass := by
        rw [State.passIfRun, if_pos (by exact ⟨hqualifying, hreached⟩)]
        rfl
      rw [hpasses]
      exact s.hearGood_fits.trans (State.enterPass_fits _)
    · have hcounts : heard.passIfRun = heard := by
        rw [State.passIfRun, if_neg (by exact fun h => hreached h.2)]
      rw [hcounts]
      refine s.hearGood_fits.trans (.link fun h => ?_)
      have hthreshold : s.agent.config.passThreshold ≤ 15 := h.agent.config.passThreshold
      show s.link.run + 1 ≤ 14
      omega
  · exact s.hearGood_fits
  · exact s.hearGood_fits
  · exact .link fun _ => Nat.zero_le _
  · exact .link fun _ => Nat.zero_le _
  · split
    · exact s.leavePass_fits _
    · exact .refl s
  all_goals exact .refl s

theorem State.silenceSource_fits (n : Nat) : s.Fits (s.silenceSource n) := by
  have hsilent : s.Fits (s.modSource n fun e => { e with state := .silent }) := .modSource fun h => { h with }
  exact hsilent.trans (State.arrive_fits _ (by decide : 28 ≤ 31))

/-- An accepted report leaves its source's counters and sequences in range (R31, R154). -/
theorem SourceEntry.Fits.accepted {e : SourceEntry} (h : e.Fits) {q : Nat} (hq : q < 256) (now : Nat) :
    (e.accept q now).Fits := by
  have hnext : (q + 1) % 256 < 256 := Nat.mod_lt _ (by decide)
  have hcounters := h.counters
  simp only [SourceEntry.accept, SourceEntry.hear]
  split <;> refine ⟨?_, by simp [hq, hnext]⟩ <;> simp_all [SourceEntry.counters, countUp_le]

theorem State.acceptReport_fits (n : Nat) {q : Nat} (hq : q < 256) : s.Fits (s.acceptReport n q) := by
  have haccepted : s.Fits (s.modSource n fun e => e.accept q s.now) := .modSource fun h => h.accepted hq _
  exact .ite (fun _ => haccepted.trans (State.arrive_fits _ (by decide : 28 ≤ 31))) fun _ => haccepted

end

end Sys2Proof.Machine

/-! What a command does, as a row of moves: one operation of the correlator, the Sweep Engine, a restart, a load or a table
write, or a change outside them that fits. -/

namespace Sys2Proof.Machine

/-! ## Moves -/

/-- What the correlator, the Sweep Engine and the loaded tables hold, with the long command in progress. -/
structure Core where
  state : CorrelatorState
  records : Table FaultRecord
  independentCount : Nat
  board : List Nat
  jobs : List SweepJob
  scan : Nat
  tables : LoadedTables
  long : Option LongCommand

/-- The core of a state. -/
def State.core (s : State) : Core :=
  ⟨s.correlator.state, s.correlator.records, s.correlator.independentCount, s.board, s.sweep.jobs, s.scan, s.tables,
    s.agent.long⟩

/-- `t` differs from `s` outside the core alone, and fits. -/
structure State.Outside (s t : State) : Prop where
  core : t.core = s.core
  fits : s.Fits t

/-- One move of the part, and what it finds where it makes it. -/
inductive State.Move (s : State) : State → Prop
  | outside {t : State} (h : s.Outside t) : Move s t
  | long {l : Option LongCommand} (hclearing : ∀ b, l ≠ some (.clearing b)) (hvalidating : ∀ n, l ≠ some (.validating n)) :
      Move s { s with agent.long := l }
  | item {a : Nat} (i : Item) (v : Status) (n : Nat) (hready : s.correlator.state = .ready)
      (ha : a < s.tables.assetCount) : Move s (s.processItem a i v n)
  | holdoff {a : Nat} (hready : s.correlator.state = .ready) (ha : a < s.tables.assetCount) : Move s (s.setHoldoff a)
  | scanned (hready : s.correlator.state = .ready) (hassets : 0 < s.tables.assetCount) : Move s s.scanOnce
  | swept : Move s s.sweepOnce
  | unlatched {a : Nat} (hready : s.correlator.state = .ready) (ha : a < s.tables.assetCount) : Move s (s.clearLatch a)
  | takenOut {a : Nat} (hready : s.correlator.state = .ready) (ha : a < s.tables.assetCount) : Move s (s.serviceOut a)
  | returned {a : Nat} (hready : s.correlator.state = .ready) (ha : a < s.tables.assetCount)
      (hout : (s.record a).condition = .outOfService) (hplace : ¬ (0 < (s.record a).dependents ∧ s.releaseRefused a)) :
      Move s (s.serviceIn a)
  | acknowledged {z : Option Nat} (hready : s.correlator.state = .ready) (hplace : ¬ (!s.hasAck ∧ s.sweepFull)) :
      Move s (s.queueAck z)
  | classWritten {e : Bytes} (hopen : s.tablesOpen = true) (htest : s.classTest e = none) :
      Move s ((s.putClass e).adjustRuns s)
  | templatesWritten (es : List Bytes) : Move s (es.foldl State.putTemplate s)
  | assetsWritten {es : List Bytes} (hopen : s.tablesOpen = true) (htest : ∀ e ∈ es, s.assetTest e = none) :
      Move s ((es.foldl State.putAsset s).adjustRuns s)
  | trunksWritten {es : List Bytes} (hopen : s.tablesOpen = true) (htest : ∀ e ∈ es, s.trunkTest e = none) :
      Move s ((es.foldl State.putTrunk s).followUse s)
  | powered (node : Nat) (mode : Mode) (boot : Bool) :
      Move s (powerOnState node mode boot s.fport.lineSignal s.flash s.pending)
  | initialised (hinit : s.correlator.state = .init) : Move s s.endInit
  | restarts (full : Bool) : Move s (s.beginRestart full)
  | restarted {toReady : Bool} (hlong : s.agent.long = some (.clearing toReady)) : Move s (s.endRestart toReady)
  | validates (n : Nat) (hloading : s.correlator.state = .loading) : Move s (s.beginValidation n)
  | served {n : Nat} (hlong : s.agent.long = some (.validating n)) (hpassed : validate s.tables n = none) :
      Move s (s.enterService n)
  | loadFailed {n : Nat} (hlong : s.agent.long = some (.validating n)) : Move s s.backToLoading

/-- `t` is `s` after a row of moves. -/
abbrev State.Moves : State → State → Prop := Relation.ReflTransGen State.Move

section
variable {s t u : State}

theorem State.Outside.refl (s : State) : s.Outside s := ⟨rfl, .refl s⟩

theorem State.Outside.trans (h : s.Outside t) (h' : t.Outside u) : s.Outside u :=
  ⟨h'.core.trans h.core, h.fits.trans h'.fits⟩

theorem State.Outside.ite {choice : Prop} [Decidable choice] (ht : s.Outside t) (hu : s.Outside u) :
    s.Outside (if choice then t else u) := by
  split
  · exact ht
  · exact hu

theorem State.Outside.moves (h : s.Outside t) : s.Moves t := .single (.outside h)

theorem State.Move.moves (h : s.Move t) : s.Moves t := .single h

theorem State.Moves.ite {choice : Prop} [Decidable choice] (ht : choice → s.Moves t) (hu : ¬ choice → s.Moves u) :
    s.Moves (if choice then t else u) := by
  split
  · next h => exact ht h
  · next h => exact hu h

/-- What every move keeps, a row of moves keeps. -/
theorem State.Moves.keeps {P : State → Prop} (hP : ∀ {s t : State}, s.Move t → P s → P t) (h : s.Moves t) (hs : P s) :
    P t := by
  induction h with
  | refl => exact hs
  | tail _ hmove ih => exact hP hmove ih

end

/-! ## Operations outside the core -/

section
variable (s : State)

theorem State.takeCommand_outside : s.Outside s.takeCommand := ⟨by simp [State.core], s.takeCommand_fits⟩

theorem State.queueCommand_outside (f : Bytes) : s.Outside (s.queueCommand f) :=
  ⟨by simp [State.core], s.queueCommand_fits f⟩

theorem State.choose_outside : s.Outside s.choose := ⟨by simp [State.core], s.choose_fits⟩

theorem State.offerDispatch_outside : s.Outside s.offerDispatch := ⟨by simp [State.core], s.offerDispatch_fits⟩

theorem State.placeReply_outside (p : Bytes) : s.Outside (s.placeReply p) := ⟨by simp [State.core], s.placeReply_fits p⟩

theorem State.forwardUp_outside (f : Bytes) : s.Outside (s.forwardUp f) := ⟨by simp [State.core], s.forwardUp_fits f⟩

theorem State.forwardDown_outside (f : Bytes) : s.Outside (s.forwardDown f) :=
  ⟨by simp [State.core], s.forwardDown_fits f⟩

theorem State.enterPass_outside : s.Outside s.enterPass := ⟨by simp [State.core], s.enterPass_fits⟩

theorem State.leavePass_outside (l : LinkState) : s.Outside (s.leavePass l) := ⟨by simp [State.core], s.leavePass_fits l⟩

theorem State.passIfRun_outside : s.Outside s.passIfRun := ⟨by simp [State.core], s.passIfRun_fits⟩

theorem State.stormEnded_outside : s.Outside s.stormEnded := ⟨by simp [State.core], s.stormEnded_fits⟩

theorem State.acceptReport_outside (n : Nat) {q : Nat} (hq : q < 256) : s.Outside (s.acceptReport n q) :=
  ⟨by simp [State.core], s.acceptReport_fits n hq⟩

/-- The agent changed where its long command, registers and overruns stay, and its queue does not grow. -/
theorem State.agentState_outside {a : ManagementAgent} (hlong : a.long = s.agent.long)
    (hqueue : a.queue.length ≤ s.agent.queue.length) (hoverruns : a.overruns = s.agent.overruns)
    (hconfig : a.config = s.agent.config) (htime : a.time = s.agent.time) : s.Outside { s with agent := a } :=
  ⟨by simp [State.core, hlong], .agentState hqueue hoverruns hconfig htime⟩

theorem State.endReplay_outside : s.Outside s.endReplay := by
  have hended : s.Outside { s with initialising := false } := ⟨rfl, .initialising false⟩
  have hidle : ∀ t : State, t.Outside { t with agent.state := .idle } := fun t =>
    t.agentState_outside rfl le_rfl rfl rfl rfl
  exact (hended.trans (hidle _)).trans (State.takeCommand_outside _)

theorem State.failReplay_outside (n : Nat) : s.Outside (s.failReplay n) := by
  have hfailed : s.Outside { s with agent.bootFailed := true, agent.bootOrdinal := n } :=
    s.agentState_outside rfl le_rfl rfl rfl rfl
  exact hfailed.trans (State.endReplay_outside _)

theorem State.finish_outside (v : ReplyStatus) (r : Bytes) : s.Outside (s.finish v r) := by
  have hmoved : ∀ a, s.Outside { s with agent.state := a } := fun a => s.agentState_outside rfl le_rfl rfl rfl rfl
  simp only [State.finish]
  split
  · exact (hmoved _).trans (State.placeReply_outside ..)
  · exact .ite (hmoved _) (s.failReplay_outside _)
  all_goals exact .refl s

/-- A reply is made outside the core. -/
theorem Ending.settle_outside (e : Ending) : e.state.Outside e.settle := by
  cases e with
  | reply s v r => exact s.finish_outside v r
  | goesOn s => exact .refl s

/-! ## The ports -/

omit s in
/-- A point maps to an asset index below the asset count (R128). -/
theorem mapPoint_lt {t : LoadedTables} {source channel point a : Nat} (h : mapPoint t source channel point = some a) :
    a < t.assetCount := by
  simp only [mapPoint] at h
  split at h
  · exact nomatch h
  · split at h
    · next hwithin => exact Option.some.inj h ▸ hwithin.2
    · exact nomatch h

theorem State.takeItem_moves (n c : Nat) (i : Item) (hready : s.correlator.state = .ready) : s.Moves (s.takeItem n c i) := by
  have hcounted : ∀ f : SourceEntry → SourceEntry, (∀ e : SourceEntry, e.Fits → (f e).Fits) → s.Outside (s.modSource n f) :=
    fun f hf => ⟨rfl, .modSource fun he => hf _ he⟩
  have hcounter : ∀ e : SourceEntry, e.Fits →
      { e with malformedItems := countUp e.malformedItems 1 }.Fits ∧
      { e with unmappedItems := countUp e.unmappedItems 1 }.Fits := by
    intro e he
    have hcounters := he.counters
    constructor <;> refine ⟨?_, he.sequences⟩ <;> simp_all [SourceEntry.counters, countUp_le]
  simp only [State.takeItem]
  split
  · exact (hcounted _ fun e he => (hcounter e he).1).moves
  · split
    · exact (hcounted _ fun e he => (hcounter e he).2).moves
    · next a hmap =>
      exact (State.Move.item i _ n hready (mapPoint_lt hmap)).moves

theorem State.takeItems_moves (n c : Nat) (is : List Item) (hready : s.correlator.state = .ready) :
    s.Moves (s.takeItems n c is) := by
  induction is generalizing s with
  | nil => exact .refl
  | cons i is ih => exact (s.takeItem_moves n c i hready).trans (ih _ (by simpa using hready))

theorem State.correlateReport_moves (f : Bytes) : s.Moves (s.correlateReport f) := by
  refine .ite (fun htakes => ?_) fun _ => State.Outside.moves ⟨rfl, .fport fun h => ?_⟩
  · have hready : s.correlator.state = .ready := ((s.takes_iff f).mp htakes).1
    refine .ite (fun _ => State.Outside.moves ⟨rfl, .modSource fun he => ⟨?_, he.sequences⟩⟩) fun _ => ?_
    · have := he.counters
      simp_all [SourceEntry.counters, countUp_le]
    · have haccepted := s.acceptReport_outside (frameNode f) (byteAt_lt f 3)
      exact haccepted.moves.trans (State.takeItems_moves _ _ _ _ (by simpa using hready))
  · have := h.counters
    exact { h with counters := by simp_all [countUp_le] }

theorem State.receiveField_moves (f : Bytes) : s.Moves (s.receiveField f) := by
  have hhanded : ∀ t : State, t.Moves (t.handField f) := by
    intro t
    refine .ite (fun _ => ?_) fun _ => .ite (fun _ => (t.forwardUp_outside f).moves) fun _ =>
      State.Outside.moves ⟨rfl, .fport fun h => ?_⟩
    · have hforwarded : t.Outside (if t.agent.mode = .correlate then t else t.forwardUp f) :=
        .ite (.refl t) (t.forwardUp_outside f)
      exact hforwarded.moves.trans (State.correlateReport_moves ..)
    · have := h.counters
      exact { h with counters := by simp_all [countUp_le] }
  have hjudged : s.Outside ((s.countField f (judge f)).qualifyLink (judge f)) :=
    ⟨by simp [State.core], (s.countField_fits ..).trans (State.qualifyLink_fits ..)⟩
  exact .ite (fun _ => hjudged.moves.trans (hhanded _)) fun _ => hjudged.moves

theorem State.detectTest_moves (f : Bytes) : s.Moves (s.detectTest f) := by
  simp only [State.detectTest]
  split
  · next hready =>
    split
    · exact .refl
    · next a hmap => exact (State.Move.holdoff (of_decide_eq_true hready) (mapPoint_lt hmap)).moves
  · exact .refl

theorem State.receiveDispatch_moves (f : Bytes) : s.Moves (s.receiveDispatch f) := by
  have hhanded : ∀ t : State, t.Moves (t.handDispatch f) := by
    intro t
    have hforwarded := (t.forwardDown_outside f).moves
    refine .ite (fun _ => .ite (fun _ => hforwarded.trans (State.detectTest_moves ..)) fun _ => hforwarded) fun _ =>
      .ite (fun _ => .ite (fun _ => (t.queueCommand_outside f).moves) fun _ => hforwarded) fun _ =>
        State.Outside.moves ⟨rfl, .dport fun h => ?_⟩
    have := h.counters
    exact { h with counters := by simp_all [countUp_le] }
  have hcounted : s.Outside (s.countDispatch f (judge f)) := ⟨by simp [State.core], s.countDispatch_fits ..⟩
  exact .ite (fun _ => hcounted.moves.trans (hhanded _)) fun _ => hcounted.moves

/-! ## The agent's commands -/

end

/-- A command that a test may refuse moves as it does where the test passes it. -/
theorem State.Moves.unlessRefused {s : State} {v : ReplyStatus} {x : Ending} {refused : Prop} [Decidable refused]
    (h : ¬ refused → s.Moves x.state) : s.Moves (if refused then refuse s v else x).state := by
  split
  · exact .refl
  · next hr => exact h hr

/-- Entries of which none fails have all passed their test. -/
theorem firstFailure_eq_none {test : Bytes → Option ReplyStatus} {es : List Bytes} {place : Nat}
    (h : firstFailure test place es = none) : ∀ e ∈ es, test e = none := by
  induction es generalizing place with
  | nil => exact nofun
  | cons e es ih =>
    simp only [firstFailure] at h
    split at h
    · exact nomatch h
    · next he => exact List.forall_mem_cons.mpr ⟨he, ih h⟩

/-- A table write moves as its writing does, which finds every entry passed. -/
theorem State.Moves.tableWrite {s w : State} {es : List Bytes} {test : Bytes → Option ReplyStatus}
    (h : (∀ e ∈ es, test e = none) → s.Moves w) : s.Moves (tableWrite s es test w).state := by
  simp only [Machine.tableWrite]
  split
  · exact .refl
  · next hnone => exact h (firstFailure_eq_none hnone)

section
variable (s : State)

/-- A configuration set whose arguments are in range is in range (R176, R178). -/
theorem configOf_inRange {a : Bytes} (h : configInRange a = true) : (configOf a).InRange := by
  simp only [configInRange, Bool.and_eq_true, decide_eq_true_eq] at h
  obtain ⟨⟨⟨⟨⟨⟨⟨⟨hpass, -⟩, hkeep⟩, hsource⟩, hfloor⟩, htrigger⟩, hstorm⟩, hstat0⟩, hstat1⟩ := h
  exact ⟨hpass, hkeep, hsource, ⟨hfloor, hstorm⟩, htrigger, hstat0, hstat1⟩

theorem State.configure_outside {c : ConfigSet} (hc : c.InRange) : s.Outside (s.configure c) := by
  have hconfig : s.Outside { s with agent.config := c } := ⟨rfl, .agent fun h => { h with config := hc }⟩
  have hmarks : ∀ (t : State) (w : Bool) (d : List Nat), t.Outside { t with link.watchdogDue := w, sources.due := d } := by
    intro t w d
    have hlink : t.Outside { t with link.watchdogDue := w } := ⟨rfl, .link State.Fitting.linkRun⟩
    exact hlink.trans ⟨rfl, .due d⟩
  have hreplaced : s.Outside (s.replaceConfig c) := hconfig.trans (hmarks ..)
  exact (hreplaced.trans (.ite (.refl _) (State.passIfRun_outside _))).trans (State.offerDispatch_outside _)

/-- A number of `n` bytes is below 256 to the power `n`. -/
theorem bigEndian_lt (bs : Bytes) : bigEndian bs < 256 ^ bs.length := by
  induction bs using List.reverseRecOn with
  | nil => simp [bigEndian]
  | append_singleton bs b ih =>
    simp only [bigEndian, List.foldl_append, List.foldl_cons, List.foldl_nil, List.length_append, List.length_cons,
      List.length_nil, Nat.pow_succ] at ih ⊢
    have := b.isLt
    omega

theorem numAt_lt (bs : Bytes) (i w : Nat) : numAt bs i w < 256 ^ w :=
  (bigEndian_lt _).trans_le (Nat.pow_le_pow_right (by decide) (List.length_take_le ..))

theorem State.setTime_outside {t : Nat} (ht : t ≤ 4294967295) : s.Outside (s.setTime t) := by
  have htime : s.Outside { s with agent.time := t } := ⟨rfl, .agent fun h => { h with time := ht }⟩
  have hmarks : ∀ u : State, u.Outside { u with link.watchdogDue := false, sources.due := [] } := by
    intro u
    have hlink : u.Outside { u with link.watchdogDue := false } := ⟨rfl, .link State.Fitting.linkRun⟩
    exact hlink.trans ⟨rfl, .due []⟩
  exact (htime.trans (hmarks _)).trans ⟨rfl, State.resume_fits _⟩

theorem State.changeMode_outside (m : Mode) : s.Outside (s.changeMode m) := by
  have hmode : s.Outside { s with agent.mode := m } := s.agentState_outside rfl le_rfl rfl rfl rfl
  exact .ite (hmode.trans ⟨rfl, State.resume_fits _⟩) hmode

theorem State.zeroPortGroup_outside : s.Outside s.zeroPortGroup := by
  have hfport : s.Outside { s with fport.counters := zeroFieldCounters } :=
    ⟨rfl, .fport fun h => { h with counters := by simp [zeroFieldCounters] }⟩
  have hdport : ∀ t : State, t.Outside { t with dport.counters := zeroDispatchCounters } := fun t =>
    ⟨rfl, .dport fun h => { h with counters := by simp [zeroDispatchCounters] }⟩
  have hnotices : ∀ t : State, t.Outside { t with notices.evicted := 0, notices.dropped := 0 } := fun t =>
    ⟨rfl, .notices fun h => ⟨h.places, Nat.zero_le _, Nat.zero_le _⟩⟩
  have hsweep : ∀ t : State, t.Outside { t with sweep.adoptDrops := 0 } := fun t =>
    ⟨rfl, .sweep fun h => { h with adoptDrops := Nat.zero_le _ }⟩
  have hagent : ∀ t : State, t.Outside { t with agent.overruns := 0 } := fun t =>
    ⟨rfl, .agent fun h => { h with overruns := Nat.zero_le _ }⟩
  exact (((hfport.trans (hdport _)).trans (hnotices _)).trans (hsweep _)).trans (hagent _)

theorem State.startStorm_outside {f : Nat} (hf : f ≤ 31) : s.Outside (s.startStorm f) := by
  have hmanual : s.Outside { s with storm.state := .manual, storm.manualFloor := f } :=
    ⟨rfl, .storm (fun h => h.buckets) fun h => { h with manualFloor := hf }⟩
  exact hmanual.trans (State.offerDispatch_outside _)

theorem State.endStorm_outside : s.Outside s.endStorm := by
  have hcalm : s.Outside { s with storm.state := .calm } := ⟨rfl, .storm (fun h => h.buckets) fun h => { h with }⟩
  exact .ite (.refl s) ((hcalm.trans (State.offerDispatch_outside _)).trans (State.stormEnded_outside _))

theorem setServiceBody_moves (p : Bytes) : s.Moves (setServiceBody p s).state := by
  refine .unlessRefused fun _ => .unlessRefused fun hready => .unlessRefused fun hargs => ?_
  have hready : s.correlator.state = .ready := by simpa [State.ready] using hready
  have ha : assetArgument p < s.tables.assetCount := by
    by_contra hbeyond
    exact hargs (.inl (by simp [State.isAsset, hbeyond]))
  split
  · exact (State.Move.takenOut hready ha).moves
  · exact .unlessRefused fun hout => .unlessRefused fun hplace =>
      (State.Move.returned hready ha (not_not.mp hout) hplace).moves

theorem ackRestoredBody_moves (p : Bytes) : s.Moves (ackRestoredBody p s).state := by
  refine .unlessRefused fun _ => .unlessRefused fun hready => ?_
  split
  · exact .refl
  · exact .unlessRefused fun hplace => (State.Move.acknowledged (by simpa [State.ready] using hready) hplace).moves

/-- The body of every row is a row of moves. -/
theorem CommandRow.body_moves (row : CommandRow) (p : Bytes) : s.Moves (row.body p s).state := by
  have hready : ∀ {t : State}, ¬ (!t.ready) = true → t.correlator.state = .ready := by simp [State.ready]
  have hasset : ∀ {a : Nat}, ¬ (!s.isAsset a) = true → a < s.tables.assetCount := by simp [State.isAsset]
  have hescalation : ∀ e, s.Moves { s with escalation := e } := fun e => State.Outside.moves ⟨rfl, .escalation e⟩
  have hopen : ¬ (!s.tablesOpen) = true → s.tablesOpen = true := by simp
  cases row with
  | badVector | status => exact .unlessRefused fun _ => .refl
  | config =>
    exact .unlessRefused fun _ => .unlessRefused fun hrange =>
      (s.configure_outside (configOf_inRange (by simpa using hrange))).moves
  | timeSet => exact .unlessRefused fun _ => (s.setTime_outside (Nat.le_of_lt_succ (numAt_lt _ 0 4))).moves
  | setMode =>
    refine .unlessRefused fun _ => ?_
    split
    · exact .refl
    · exact (s.changeMode_outside _).moves
  | restartClear | restartFull =>
    exact .unlessRefused fun _ => .unlessRefused fun _ => (State.Move.restarts _).moves
  | loadBegin => exact .unlessRefused fun _ => (State.Move.restarts true).moves
  | loadEnd =>
    exact .unlessRefused fun _ => .unlessRefused fun hloading => (State.Move.validates _ (not_not.mp hloading)).moves
  | readCountersPort =>
    exact .unlessRefused fun _ => .unlessRefused fun _ => .ite (fun _ => s.zeroPortGroup_outside.moves) fun _ => .refl
  | readCountersSource =>
    refine .unlessRefused fun _ => .unlessRefused fun _ => .ite (fun _ => ?_) fun _ => .refl
    exact State.Outside.moves ⟨rfl, .modSource fun h => ⟨by simp [SourceEntry.counters, SourceEntry.zeroCounters], h.sequences⟩⟩
  | classWrite =>
    exact .unlessRefused fun _ => .unlessRefused fun ho => .tableWrite fun htest =>
      (State.Move.classWritten (hopen ho) (htest _ (List.mem_singleton_self _))).moves
  | templateWrite =>
    exact .unlessRefused fun _ => .unlessRefused fun _ => .tableWrite fun _ => (State.Move.templatesWritten _).moves
  | assetWrite =>
    exact .unlessRefused fun _ => .unlessRefused fun ho => .tableWrite fun htest =>
      (State.Move.assetsWritten (hopen ho) htest).moves
  | trunkWrite =>
    exact .unlessRefused fun _ => .unlessRefused fun ho => .tableWrite fun htest =>
      (State.Move.trunksWritten (hopen ho) htest).moves
  | queryAsset =>
    refine .unlessRefused fun _ => .unlessRefused fun hr => .unlessRefused fun hargs => .ite (fun _ => ?_) fun _ => .refl
    exact (State.Move.unlatched (hready hr) (hasset fun h => hargs (.inl h))).moves
  | queryList =>
    refine .unlessRefused fun _ => .unlessRefused fun _ => .unlessRefused fun _ => ?_
    split
    · exact .refl
    · split <;> exact .refl
  | ackFault =>
    exact .unlessRefused fun _ => .unlessRefused fun hr => .unlessRefused fun ha => .unlessRefused fun _ =>
      (State.Move.unlatched (hready hr) (hasset ha)).moves
  | ackRestored => exact ackRestoredBody_moves s p
  | setServiceOut | setServiceIn => exact setServiceBody_moves s p
  | stormOn | stormOff =>
    refine .unlessRefused fun _ => .unlessRefused fun hrange => ?_
    split
    · next haction =>
      have hfloor : byteAt (arguments p) 1 ≤ 31 := by
        by_contra habove
        exact hrange (.inr ⟨haction, by omega⟩)
      exact (s.startStorm_outside hfloor).moves
    · exact s.endStorm_outside.moves
  | escArm =>
    refine .unlessRefused fun _ => ?_
    split
    · exact hescalation _
    · exact hescalation _
    · exact .refl
    · exact .refl
  | escAck =>
    refine .unlessRefused fun _ => ?_
    split
    · exact .refl
    · exact .refl
    · exact .unlessRefused fun _ => hescalation _
    · exact .unlessRefused fun _ => hescalation _
  | flashErase =>
    exact .unlessRefused fun _ => .unlessRefused fun _ => (State.Move.long (l := some (.erasing 0)) nofun nofun).moves
  | flashWrite =>
    exact .unlessRefused fun _ => .unlessRefused fun _ => .unlessRefused fun _ => .unlessRefused fun _ =>
      (State.Move.long (l := some (.writing _ _)) nofun nofun).moves

/-- The step of every row is a row of moves. -/
theorem State.runRow_moves (row : CommandRow) : s.Moves (s.runRow row row.body) := by
  rcases s.runRow_cases row row.body with he | ⟨p, -, -, he⟩
  · exact he.symm ▸ .refl
  · rw [he]
    exact (row.body_moves s p).trans (Ending.settle_outside _).moves

theorem State.replayStep_moves : s.Moves s.replayStep := by
  have hfailed : ∀ k, s.Moves (s.failReplay k) := fun k => (s.failReplay_outside k).moves
  have hran : ∀ o n f, s.Moves (s.replayCommand o n f) := by
    intro o n f
    rw [State.replayCommand, runCommand_eq]
    have hreplaying : s.Outside
        { s with agent.state := .replaying (o + f.length) n (some (framePayload f)) } :=
      s.agentState_outside rfl le_rfl rfl rfl rfl
    exact (hreplaying.moves.trans (CommandRow.body_moves ..)).trans (Ending.settle_outside _).moves
  simp only [State.replayStep]
  split
  · exact .ite (fun _ => hfailed _) fun _ => .ite
      (fun _ => .ite (fun _ => s.endReplay_outside.moves) fun _ => hfailed _) fun _ =>
        .ite (fun _ => hfailed _) fun _ => .ite (fun _ => hfailed _) fun _ => hran ..
  all_goals exact .refl

/-! ## The steps -/

theorem State.loseLine_outside : s.Outside s.loseLine := by
  simp only [State.loseLine]
  split
  · exact s.leavePass_outside _
  · exact ⟨rfl, .link fun _ => Nat.zero_le _⟩
  · exact .refl s

theorem State.regainLine_outside : s.Outside s.regainLine := by
  simp only [State.regainLine]
  split
  · exact .ite ⟨rfl, .link fun _ => Nat.zero_le _⟩ s.enterPass_outside
  all_goals exact .refl s

theorem State.advance_outside : s.Outside s.advance := by
  simp only [State.advance]
  split
  · next hbelow =>
    have htime : s.Outside { s with agent.time := s.agent.time + 1 } := ⟨rfl, .agent fun h => { h with time := hbelow }⟩
    have hwatchdog : ∀ (t : State) (w : Bool), t.Outside { t with link.watchdogDue := w } := fun t w =>
      ⟨rfl, .link State.Fitting.linkRun⟩
    exact (htime.trans (hwatchdog ..)).trans ⟨rfl, .due _⟩
  · exact .refl s

theorem State.takeDown_outside : s.Outside s.takeDown :=
  ⟨by simp only [State.takeDown]; split <;> rfl, s.takeDown_fits⟩

theorem State.finishDown_outside : s.Outside s.finishDown := by
  have hcounted : s.Outside
      { s with fport.counters.transmitted := countUp s.fport.counters.transmitted 1 } :=
    ⟨rfl, .fport fun h => { h with counters := by have := h.counters; simp_all [countUp_le] }⟩
  exact hcounted.trans (State.takeDown_outside _)

theorem State.clearingDone_moves : s.Moves s.clearingDone := by
  simp only [State.clearingDone]
  split
  · next hlong => exact (State.Move.restarted hlong).moves.trans (State.finish_outside ..).moves
  all_goals exact .refl

theorem State.validationDone_moves : s.Moves s.validationDone := by
  simp only [State.validationDone, State.endValidation]
  split
  · next hlong =>
    split
    · next hpassed => exact (State.Move.served hlong hpassed).moves.trans (State.finish_outside ..).moves
    · exact (State.Move.loadFailed hlong).moves.trans (State.finish_outside ..).moves
  all_goals exact .refl

theorem State.eraseStep_moves : s.Moves s.eraseStep := by
  simp only [State.eraseStep]
  split
  · next block _ =>
    have herased : s.Outside { s with flash := tableErase s.flash (block * Config.flashBlock) Config.flashBlock } :=
      ⟨rfl, .flash fun h => tableErase_wf h.flash ..⟩
    refine .ite (fun _ => ?_) fun _ => ?_
    · exact herased.moves.trans (State.Move.long (l := some (.erasing (block + 1))) nofun nofun).moves
    · exact (herased.moves.trans (State.Move.long (l := none) nofun nofun).moves).trans (State.finish_outside ..).moves
  all_goals exact .refl

theorem State.writeDone_moves : s.Moves s.writeDone := by
  simp only [State.writeDone]
  split
  · next block data _ =>
    have hwritten : s.Outside { s with flash := tableSetAll erasedByte s.flash (block * Config.flashBlock) data } :=
      ⟨rfl, .flash fun h => tableSetAll_wf h.flash ..⟩
    exact (hwritten.moves.trans (State.Move.long (l := none) nofun nofun).moves).trans (State.finish_outside ..).moves
  all_goals exact .refl

end

/-- Every command is a row of moves. -/
theorem exec_moves (c : Instr) (s : State) : ∃ t, exec c s = .next t ∧ s.Moves t := by
  cases c with
  | resetAssert =>
    have hlong : s.Moves { s with agent.long := none } := (State.Move.long (l := none) nofun nofun).moves
    have hfport : ∀ t : State, t.Outside { t with fport.sending := none } := fun t => ⟨rfl, .fport fun h => { h with }⟩
    have hdport : ∀ t : State, t.Outside { t with dport.sending := none } := fun t => ⟨rfl, .dport fun h => { h with }⟩
    have hheld : ∀ t : State, t.Outside { t with inReset := true } := fun t =>
      ⟨rfl, fun h => { h with }, fun h => { h with }⟩
    exact ⟨_, rfl, hlong.trans (((hfport _).trans (hdport _)).trans (hheld _)).moves⟩
  | powerOnResetRelease => exact ⟨_, rfl, (State.Move.powered ..).moves⟩
  | initEnd => exact ⟨_, rfl, .ite (fun h => (State.Move.initialised h.2).moves) fun _ => .refl⟩
  | timeBaseAdvance => exact ⟨_, rfl, .ite (fun _ => .refl) fun _ => s.advance_outside.moves⟩
  | linkWatchdogExpiry => exact ⟨_, rfl, .ite (fun _ => (s.leavePass_outside _).moves) fun _ => .refl⟩
  | sourceSilent n =>
    have hdue : s.Outside { s with sources.due := s.sources.due.erase n } := ⟨rfl, .due _⟩
    have hsilent : ∀ t : State, t.Outside (t.silenceSource n) := fun t => ⟨by simp [State.core], t.silenceSource_fits n⟩
    exact ⟨_, rfl, .ite (fun _ => (hdue.trans (hsilent _)).moves) fun _ => .refl⟩
  | lineSignalLoss =>
    have hlost : s.Outside { s with fport.lineSignal := false } := ⟨rfl, .fport fun h => { h with }⟩
    exact ⟨_, rfl, (State.Outside.ite (hlost.trans (State.loseLine_outside _)) hlost).moves⟩
  | lineSignalReturn =>
    have hback : s.Outside { s with fport.lineSignal := true } := ⟨rfl, .fport fun h => { h with }⟩
    exact ⟨_, rfl, (State.Outside.ite (hback.trans (State.regainLine_outside _)) hback).moves⟩
  | fPortFrameReceived frame => exact ⟨_, rfl, .ite (fun _ => s.receiveField_moves _) fun _ => .refl⟩
  | dPortFrameReceived frame => exact ⟨_, rfl, .ite (fun _ => s.receiveDispatch_moves _) fun _ => .refl⟩
  | fPortFrameSent => exact ⟨_, rfl, .ite (fun _ => s.finishDown_outside.moves) fun _ => .refl⟩
  | dPortFrameSent => exact ⟨_, rfl, .ite (fun _ => s.choose_outside.moves) fun _ => .refl⟩
  | scannerVisit =>
    refine ⟨_, rfl, .ite (fun h => ?_) fun _ => .refl⟩
    exact (State.Move.scanned ((s.scannerRuns_iff.mp h.1).2.1) h.2).moves
  | sweepStep => exact ⟨_, rfl, .ite (fun _ => .refl) fun _ => State.Move.swept.moves⟩
  | bootReplayFrame => exact ⟨_, rfl, .ite (fun _ => .refl) fun _ => s.replayStep_moves⟩
  | clearingEnd => exact ⟨_, rfl, .ite (fun _ => .refl) fun _ => s.clearingDone_moves⟩
  | validationEnd => exact ⟨_, rfl, .ite (fun _ => .refl) fun _ => s.validationDone_moves⟩
  | flashEraseBlock => exact ⟨_, rfl, .ite (fun _ => .refl) fun _ => s.eraseStep_moves⟩
  | flashWriteEnd => exact ⟨_, rfl, .ite (fun _ => .refl) fun _ => s.writeDone_moves⟩
  | mgmtBadVector | status | config | timeSet | setMode | restartClear | restartFull | readCountersPort
  | readCountersSource | loadBegin | loadEnd | classWrite | templateWrite | assetWrite | trunkWrite | queryAsset
  | queryList | ackFault | ackRestored | setServiceOut | setServiceIn | stormOn | stormOff | escArm | escAck
  | flashErase | flashWrite => exact ⟨_, rfl, s.runRow_moves _⟩

/-- What every move keeps, and what does not read the queue of waiting commands, every step keeps. -/
theorem step_keeps {P : State → Prop} (hP : ∀ {s t : State}, s.Move t → P s → P t)
    (hpending : ∀ (s : State) q, P s → P { s with pending := q }) {s t : State} (hs : P s) (h : step s = .next t) : P t := by
  simp only [step] at h
  split at h
  · exact Host.Outcome.next.inj h ▸ hs
  · next c rest _ =>
    obtain ⟨u, hexec, hmoves⟩ := exec_moves c { s with pending := rest }
    obtain rfl := Host.Outcome.next.inj (hexec.symm.trans h)
    exact hmoves.keeps hP (hpending s rest hs)

end Sys2Proof.Machine

/-! The memories and the capacities over every step: the remaining operations fit, so every move does (R1, R29, R31, R41, R49,
R85, R104, R111, R126, R127, R145, R152, R163, R166, R186). -/

namespace Sys2Proof.Machine

/-- The empty memory is canonical. -/
theorem wf_nil {α : Type} (d : α) : Table.wf d [] := ⟨.nil, nofun⟩

/-- A validation that finds no failure has every check passed (R142). -/
theorem validate_eq_none {t : LoadedTables} {n : Nat} (h : validate t n = none) :
    n ≤ 32768 ∧ (∀ i < n, (tableGet none t.classes (tableGet unwrittenAsset t.assets i).cls).isSome) ∧
      (∀ i < n, ∀ p, (tableGet unwrittenAsset t.assets i).parent = some p → p < i) ∧
      ∀ k < 1024, ∀ r, tableGet none t.trunks k = some r → r.base + r.length ≤ n := by
  by_cases hlimit : n ≤ 32768
  · simp only [validate_withinLimit hlimit, nameFailure_eq_none_iff, lowestFailing_eq_none_iff, parentLower_iff,
      trunkWithin_iff, and_true] at h
    exact ⟨hlimit, h.2⟩
  · simp [validate_overLimit hlimit] at h

section
variable (s : State)

/-! ## Service -/

theorem State.serviceOut_fits (a : Nat) : s.Fits (s.serviceOut a) := by
  have hleft : s.Fits (s.leaveAttribution a) := .ite (fun _ => s.uncountIndependent_fits) fun _ => s.unattribute_fits a
  have hout : ∀ t : State, t.Fits (t.modRecord a fun r => { r with condition := .outOfService, run := 0 }) := fun t =>
    .modRecord_plain a fun _ => ⟨rfl, rfl⟩
  refine .ite (fun _ => .refl s) fun _ => ?_
  exact (((hleft.trans (hout _)).trans (State.endAdopt_fits _ a)).trans (State.cancelReleaseIfMasking_fits _ a)).trans
    (State.leaveUnlessListed_fits _ a)

theorem State.serviceIn_fits {a : Nat} (h : ¬ (0 < (s.record a).dependents ∧ s.releaseRefused a)) :
    s.Fits (s.serviceIn a) := by
  have hreleased : s.Fits (if 0 < (s.record a).dependents then s.queueRelease a else s) :=
    .ite (fun hdependents => s.queueRelease_fits (Bool.eq_false_iff.mpr fun hrefused => h ⟨hdependents, hrefused⟩))
      fun _ => .refl s
  have hback : ∀ t : State, t.Fits
      (t.modRecord a fun r => { r with condition := .unknown, run := 0, severity := .none }) := fun t =>
    .modRecord_plain a fun _ => ⟨rfl, rfl⟩
  exact (hreleased.trans (hback _)).trans (State.leaveUnlessListed_fits _ a)

/-! ## The loaded tables -/

theorem State.putClass_fits (e : Bytes) : s.Fits (s.putClass e) :=
  .tables State.Canonical.trunks State.Canonical.assets (fun h => tableSet_wf h.classes ..) State.Canonical.templates id

theorem State.putTemplate_fits (e : Bytes) : s.Fits (s.putTemplate e) :=
  .tables State.Canonical.trunks State.Canonical.assets State.Canonical.classes (fun h => tableSet_wf h.templates ..) id

theorem State.putAsset_fits (e : Bytes) : s.Fits (s.putAsset e) :=
  .tables State.Canonical.trunks (fun h => tableSet_wf h.assets ..) State.Canonical.classes State.Canonical.templates id

theorem State.putTrunk_fits (e : Bytes) : s.Fits (s.putTrunk e) :=
  .tables (fun h => tableSet_wf h.trunks ..) State.Canonical.assets State.Canonical.classes State.Canonical.templates id

/-- Entries written one after another fit when each does. -/
theorem State.Fits.foldl {f : State → Bytes → State} (hf : ∀ (s : State) e, s.Fits (f s e)) (es : List Bytes) :
    s.Fits (es.foldl f s) := by
  induction es generalizing s with
  | nil => exact .refl s
  | cons e es ih => exact (hf s e).trans (ih _)

/-- A run adjustment changes a record's run alone (R5). -/
theorem adjustRun_eq (old new : ClassEntry) (r : FaultRecord) : ∃ n, adjustRun old new r = { r with run := n } := by
  simp only [adjustRun]
  split
  · exact ⟨_, rfl⟩
  · split
    · exact ⟨_, rfl⟩
    · exact ⟨_, rfl⟩

theorem State.adjustRuns_fits (u : State) : s.Fits (s.adjustRuns u) := by
  refine .ite (fun _ => .records (fun h => tableMap_wf h.records _) fun h => forall_tableMap h.records ?_) fun _ => .refl s
  intro a r hr
  obtain ⟨n, he⟩ := adjustRun_eq (u.classOf a) (s.classOf a) r
  exact he ▸ ⟨hr.flapScore, hr.times⟩

/-- A source whose use starts or ends keeps its counters in range and forgets its sequences. -/
theorem SourceEntry.Fits.restart {e : SourceEntry} (h : e.Fits) (c : SourceState) : (e.restart c).Fits :=
  ⟨h.counters, nofun⟩

theorem State.changeSources_fits (f : Nat → SourceEntry → SourceEntry) (hf : ∀ n e, e.Fits → (f n e).Fits) :
    s.Fits { s with sources.table := changeSources f s.sources.table } :=
  .sources (fun h => (changeSources_keeps (P := fun _ => True)).1 h.sources) fun h =>
    changeSources_keeps.2 unusedSource_fits hf h.sources

/-- The Source Table and the marks of the model's own changed in one. -/
theorem State.Fits.sourcesAndDue {table : Table SourceEntry} (h : s.Fits { s with sources.table := table })
    (l : List Nat) : s.Fits { s with sources.table := table, sources.due := l } := h.trans (.due l)

theorem State.followUse_fits (u : State) : s.Fits (s.followUse u) := by
  refine .ite (fun _ => ?_) fun _ => .refl s
  have hchanged := s.changeSources_fits (useChange u.tables s.tables) fun n e he => by
    simp only [useChange]
    repeat' split
    · exact he
    · exact he.restart _
    · exact he.restart _
  exact .sourcesAndDue s hchanged _

theorem State.startSources_fits : s.Fits s.startSources :=
  s.changeSources_fits _ fun n e he => by
    split
    · exact he.restart _
    · exact he

/-! ## Power, restarts and loads -/

/-- The power-on values fit, with the flash of the state before (R185). -/
theorem powerOnState_fits (node : Nat) (mode : Mode) (boot line : Bool) (q : List Instr) :
    s.Fits (powerOnState node mode boot line s.flash q) := by
  refine ⟨fun h => ⟨wf_nil _, wf_nil _, wf_nil _, wf_nil _, wf_nil _, wf_nil _,
    wf_nil _, h.flash⟩, fun _ => ?_⟩
  exact {
    fport := ⟨Nat.zero_le _, Nat.zero_le _, by simp [powerOnState, zeroFieldCounters]⟩
    dport := ⟨Nat.zero_le _, Nat.zero_le _, (by decide : 0 < 256), (by decide : 0 < 65536),
      by simp [powerOnState, zeroDispatchCounters]⟩
    notices := ⟨Nat.zero_le _, Nat.zero_le _, Nat.zero_le _⟩
    agent := ⟨Nat.zero_le _, Nat.zero_le _, by constructor <;> simp [powerOnState, powerOnConfig], Nat.zero_le _⟩
    sweep := ⟨Nat.zero_le _, Nat.zero_le _⟩
    storm := ⟨List.forall_mem_nil _, Nat.zero_le _⟩
    sources := List.forall_mem_nil _
    records := List.forall_mem_nil _
    linkRun := Nat.zero_le _
    scan := (by decide : 0 < 32768)
    assetCount := Nat.zero_le _
    resumeTime := Nat.zero_le _ }

theorem State.endInit_fits : s.Fits s.endInit := by
  have hcleared : s.Fits { s with
      initialising := s.straps.boot
      link := { s.link with state := s.linkStart, run := 0 }
      correlator := { s.correlator with state := .loading, records := [], independentCount := 0 }
      board := []
      sweep := { s.sweep with jobs := [] }
      agent.state := s.agentStart } :=
    ⟨fun h => { h with records := wf_nil _ }, fun h => { h with
      agent := ⟨h.agent.queue, h.agent.overruns, h.agent.config, h.agent.time⟩
      sweep := ⟨Nat.zero_le _, h.sweep.adoptDrops⟩
      records := List.forall_mem_nil _
      linkRun := Nat.zero_le _ }⟩
  exact hcleared.trans (State.takeCommand_fits _)

/-- The Source Table after the clearing act is canonical and holds nothing but unused and waiting entries (R152). -/
theorem clearedSources_fits (t : LoadedTables) (keepUse : Bool) :
    Table.wf unusedSource (clearedSources t keepUse) ∧ ∀ e ∈ clearedSources t keepUse, e.2.Fits := by
  cases keepUse with
  | false => exact ⟨wf_nil _, nofun⟩
  | true =>
    have hentry : ∀ e ∈ clearedSources t true, e.2 = { unusedSource with state := .waiting } := by
      intro e he
      obtain ⟨n, -, hn⟩ := List.mem_filterMap.mp he
      split at hn
      · obtain rfl := Option.some.inj hn
        rfl
      · exact nomatch hn
    refine ⟨⟨?_, fun e he => ?_⟩, fun e he => ?_⟩
    · refine List.Pairwise.filterMap _ ?_ (List.pairwise_lt_range (n := Config.sourceLimit))
      intro i j hij e he f hf
      simp only [Option.ite_none_right_eq_some, Option.some.injEq] at he hf
      obtain ⟨-, rfl⟩ := he
      obtain ⟨-, rfl⟩ := hf
      exact hij
    · rw [hentry e he]
      decide
    · rw [hentry e he]
      exact ⟨by decide, nofun⟩

theorem State.beginRestart_fits (full : Bool) : s.Fits (s.beginRestart full) := by
  obtain ⟨hwf, hentries⟩ := clearedSources_fits s.tables (!full && s.ready)
  constructor
  · intro h
    cases full with
    | true => exact ⟨wf_nil _, wf_nil _, wf_nil _, wf_nil _, wf_nil _, hwf, wf_nil _, h.flash⟩
    | false => exact ⟨wf_nil _, h.trunks, h.assets, h.classes, h.templates, hwf, wf_nil _, h.flash⟩
  · intro h
    exact {
      fport := ⟨h.fport.down, h.fport.receive, by simp [State.beginRestart, State.clearingAct, zeroFieldCounters]⟩
      dport := ⟨h.dport.receive, h.dport.up, h.dport.sequence, h.dport.noticeNumber,
        by simp [State.beginRestart, State.clearingAct, zeroDispatchCounters]⟩
      notices := ⟨Nat.zero_le _, Nat.zero_le _, Nat.zero_le _⟩
      agent := ⟨h.agent.queue, Nat.zero_le _, h.agent.config, h.agent.time⟩
      sweep := ⟨Nat.zero_le _, Nat.zero_le _⟩
      storm := ⟨List.forall_mem_nil _, Nat.zero_le _⟩
      sources := hentries
      records := List.forall_mem_nil _
      linkRun := h.linkRun
      scan := (by decide : 0 < 32768)
      assetCount := by cases full <;> [exact h.assetCount; exact Nat.zero_le _]
      resumeTime := h.resumeTime }

/-- A long command begun or ended. -/
theorem State.long_fits (l : Option LongCommand) : s.Fits { s with agent.long := l } := .agentState le_rfl rfl rfl rfl

theorem State.endRestart_fits (toReady : Bool) : s.Fits (s.endRestart toReady) := by
  refine (s.long_fits none).trans ?_
  cases toReady with
  | true => exact (State.Fits.correlatorState _).trans (State.resume_fits _)
  | false => exact .correlatorState _

theorem State.beginValidation_fits (n : Nat) : s.Fits (s.beginValidation n) :=
  (State.Fits.correlatorState .validating).trans (State.long_fits _ _)

theorem State.backToLoading_fits : s.Fits s.backToLoading :=
  (State.Fits.correlatorState .loading).trans (State.long_fits _ _)

theorem State.enterService_fits {n : Nat} (h : validate s.tables n = none) : s.Fits (s.enterService n) := by
  have hcounted : s.Fits { s with tables.assetCount := n } :=
    .tables State.Canonical.trunks State.Canonical.assets State.Canonical.classes State.Canonical.templates fun _ =>
      (validate_eq_none h).1
  have hready : s.Fits { s with tables.assetCount := n, correlator.state := .ready, agent.long := none } :=
    (hcounted.trans (.correlatorState .ready)).trans (State.long_fits _ _)
  exact (hready.trans (State.resume_fits _)).trans (State.startSources_fits _)

end

/-! ## Every step -/

/-- Every move fits. -/
theorem State.Move.fits {s t : State} (h : s.Move t) : s.Fits t := by
  cases h with
  | outside h => exact h.fits
  | long => exact s.long_fits _
  | item i v n => exact s.processItem_fits ..
  | holdoff => exact s.setHoldoff_fits _
  | scanned => exact s.scanOnce_fits
  | swept => exact s.sweepOnce_fits
  | unlatched => exact s.clearLatch_fits _
  | takenOut => exact s.serviceOut_fits _
  | returned _ _ _ hplace => exact s.serviceIn_fits hplace
  | acknowledged _ hplace => exact s.queueAck_fits hplace
  | classWritten => exact (s.putClass_fits _).trans (State.adjustRuns_fits ..)
  | templatesWritten es => exact .foldl s (fun s e => s.putTemplate_fits e) es
  | assetsWritten => exact (State.Fits.foldl s (fun s e => s.putAsset_fits e) _).trans (State.adjustRuns_fits ..)
  | trunksWritten => exact (State.Fits.foldl s (fun s e => s.putTrunk_fits e) _).trans (State.followUse_fits ..)
  | powered => exact powerOnState_fits ..
  | initialised => exact s.endInit_fits
  | restarts full => exact s.beginRestart_fits full
  | restarted => exact s.endRestart_fits _
  | validates n => exact s.beginValidation_fits n
  | served _ hpassed => exact s.enterService_fits hpassed
  | loadFailed => exact s.backToLoading_fits

/-- Settles O53: every move keeps the canonical form of every memory. -/
theorem everyStepKeepsMemoriesCanonical : Obligations.EveryStepKeepsMemoriesCanonical := by
  unfold Obligations.EveryStepKeepsMemoriesCanonical
  intro s t hs h
  exact step_keeps (P := State.Canonical) (fun hmove => hmove.fits.canonical) (fun _ _ hs => { hs with }) hs h

/-! ## The independent-fault count -/

/-- A canonical memory whose entries lie below a limit holds no more of them than the limit. -/
theorem Table.length_le {α : Type} {d : α} {t : Table α} (w : Table.wf d t) {n : Nat} (h : ∀ e ∈ t, e.1 < n) :
    t.length ≤ n := by
  have hnodup : (t.map Prod.fst).Nodup := (List.pairwise_map.mpr w.1).imp fun h => Nat.ne_of_lt h
  have hsubset : t.map Prod.fst ⊆ List.range n := fun k hk => by
    obtain ⟨e, he, rfl⟩ := List.mem_map.mp hk
    exact List.mem_range.mpr (h e he)
  simpa using (hnodup.subperm hsubset).length_le

/-- Where a record at or above the asset count is clear, no more faults are counted than there are assets (R1, R4). -/
theorem State.RootsStand.independentCount_le {s : State} (h : s.RootsStand) :
    s.correlator.independentCount ≤ s.tables.assetCount := by
  have hwf := h.attributed.canonical
  have hbelow : ∀ e ∈ s.correlator.records, e.1 < s.tables.assetCount := by
    intro e he
    by_contra hbeyond
    have hclear : s.record e.1 = clearRecord := h.beyond e.1 (Nat.not_lt.mp hbeyond)
    have hlisted : s.record e.1 = e.2 := tableGet_of_mem hwf he
    exact hwf.2 e he (hlisted.symm.trans hclear)
  rw [h.attributed.independents]
  exact List.countP_le_length.trans (Table.length_le hwf hbelow)

/-- Settles O54: every move keeps the capacities, and the count of faults is at most the number of records. -/
theorem everyStepKeepsCapacities : Obligations.EveryStepKeepsCapacities := by
  unfold Obligations.EveryStepKeepsCapacities
  refine ⟨fun s t hs h => ?_, fun s hs hroots => hroots.independentCount_le.trans hs.assetCount⟩
  rw [State.withinCapacity_iff] at hs ⊢
  exact step_keeps (P := State.Fitting) (fun hmove => hmove.fits.capacity) (fun _ _ hs => { hs with }) hs h

end Sys2Proof.Machine

/-! The tables in service over every step (R127, R130, R131, R139, R140, R142): what each move leaves of the correlator state, the
long command and the tables. -/

namespace Sys2Proof.Machine

/-! ## Several writes in a memory -/

section
variable {α β : Type} [DecidableEq α] {d : α} {key : β → Nat} {val : β → α}

/-- Writes one after another: a key reads as the last write to it left it, or as before where none names it. -/
theorem tableGet_foldl_writes {t : Table α} (w : Table.wf d t) (es : List β) (i : Nat) :
    tableGet d (es.foldl (fun t e => tableSet d t (key e) (val e)) t) i = tableGet d t i ∨
      ∃ e ∈ es, key e = i ∧ tableGet d (es.foldl (fun t e => tableSet d t (key e) (val e)) t) i = val e := by
  induction es generalizing t with
  | nil => exact .inl rfl
  | cons e es ih =>
    rcases ih (tableSet_wf w (key e) (val e)) with h | ⟨b, hb, hkey, hval⟩
    · by_cases hi : i = key e
      · exact .inr ⟨e, List.mem_cons_self .., hi.symm, h.trans (hi ▸ tableGet_tableSet_self w ..)⟩
      · exact .inl (h.trans (tableGet_tableSet_ne d t _ hi))
    · exact .inr ⟨b, List.mem_cons_of_mem _ hb, hkey, hval⟩

end

section
variable (s : State)

/-- Template entries written in a row write the templates alone. -/
theorem State.foldl_putTemplate (es : List Bytes) : es.foldl State.putTemplate s = { s with
    tables.templates := es.foldl (fun t e => tableSet invalidTemplate t (templateIndex e) (templateOf e))
      s.tables.templates } := by
  induction es generalizing s with
  | nil => rfl
  | cons e es ih => exact ih _

/-- Asset entries written in a row write the Asset Table alone. -/
theorem State.foldl_putAsset (es : List Bytes) : es.foldl State.putAsset s = { s with
    tables.assets := es.foldl (fun t e => tableSet unwrittenAsset t (assetIndex e) (assetOf e)) s.tables.assets } := by
  induction es generalizing s with
  | nil => rfl
  | cons e es ih => exact ih _

/-- Trunk entries written in a row write the Trunk Map alone. -/
theorem State.foldl_putTrunk (es : List Bytes) : es.foldl State.putTrunk s = { s with
    tables.trunks := es.foldl (fun t e => tableSet none t (trunkSource e * 16 + trunkChannel e) (trunkOf e))
      s.tables.trunks } := by
  induction es generalizing s with
  | nil => rfl
  | cons e es ih => exact ih _

end

/-! ## The tests of live edits -/

section
variable {s : State} {e : Bytes}

/-- The tables are open while LOADING and READY alone. -/
theorem State.tablesOpen_iff (s : State) :
    s.tablesOpen = true ↔ s.correlator.state = .loading ∨ s.correlator.state = .ready := by
  simp [State.tablesOpen, State.ready]

theorem State.ready_iff (s : State) : s.ready = true ↔ s.correlator.state = .ready := decide_eq_true_iff

/-- A class entry that passes is in range, and in READY keeps the masking of a loaded class (R136, R137). -/
theorem State.classTest_eq_none (h : s.classTest e = none) : (classEntryOf e).inRange = true ∧
    (s.correlator.state = .ready → ∀ c, s.loadedClass (classIndex e) = some c → c.masking = (classEntryOf e).masking) := by
  by_cases hrange : classInRange e = true
  · refine ⟨(Bool.and_eq_true _ _ ▸ hrange : _ ∧ _).2, fun hready c hc => ?_⟩
    by_contra hmasking
    simp [State.classTest, hrange, s.ready_iff.mpr hready, hc, hmasking] at h
  · simp [State.classTest, hrange] at h

/-- An asset entry that passes in READY names an asset below the count, keeps its parent and takes a loaded class of the
masking it had (R139). -/
theorem State.assetTest_eq_none (h : s.assetTest e = none) (hready : s.correlator.state = .ready) :
    assetIndex e < s.tables.assetCount ∧ (assetOf e).parent = (s.asset (assetIndex e)).parent ∧
      ∃ c, s.loadedClass (assetOf e).cls = some c ∧ c.masking = (s.classOf (assetIndex e)).masking := by
  have hrange : assetInRange e = true := by
    by_contra hout
    exact nomatch (State.assetTest_outOfRange (Bool.not_eq_true _ ▸ hout)).symm.trans h
  rw [State.assetTest_ready hrange hready, State.liveAssetTest] at h
  split at h
  · exact nomatch h
  · next hcount =>
    split at h
    · exact nomatch h
    · next hparent =>
      split at h
      · exact nomatch h
      · next c hc =>
        split at h
        · next hmasking => exact ⟨Nat.lt_of_not_le hcount, not_not.mp hparent, c, hc, hmasking⟩
        · exact nomatch h

/-- A trunk entry that passes in READY lies within the asset count (R140). -/
theorem State.trunkTest_eq_none (h : s.trunkTest e = none) (hready : s.correlator.state = .ready) :
    ∀ r, trunkOf e = some r → r.base + r.length ≤ s.tables.assetCount := by
  intro r hr
  by_contra hbeyond
  simp [State.trunkTest, s.ready_iff.mpr hready, trunkInRange, hr, TrunkRun.inRange, hbeyond] at h

end

/-! ## Moves that leave the correlator state, the long command and the tables -/

/-- `t` has the correlator state, the tables and the long command of `s`. -/
structure State.Steady (s t : State) : Prop where
  state : t.correlator.state = s.correlator.state
  tables : t.tables = s.tables
  long : t.agent.long = s.agent.long

section
variable {s t u : State}

theorem State.Steady.trans (h : s.Steady t) (h' : t.Steady u) : s.Steady u :=
  ⟨h'.state.trans h.state, h'.tables.trans h.tables, h'.long.trans h.long⟩

theorem State.Steady.ite {choice : Prop} [Decidable choice] (ht : s.Steady t) (hu : s.Steady u) :
    s.Steady (if choice then t else u) := by
  split
  · exact ht
  · exact hu

variable (s)

theorem State.processItem_steady (a : Nat) (i : Item) (v : Status) (n : Nat) : s.Steady (s.processItem a i v n) := by
  constructor <;> simp

theorem State.setHoldoff_steady (a : Nat) : s.Steady (s.setHoldoff a) := by constructor <;> simp

theorem State.scanOnce_steady : s.Steady s.scanOnce := by constructor <;> simp

theorem State.sweepOnce_steady : s.Steady s.sweepOnce := by constructor <;> simp

theorem State.clearLatch_steady (a : Nat) : s.Steady (s.clearLatch a) := by constructor <;> simp

theorem State.queueAck_steady (z : Option Nat) : s.Steady (s.queueAck z) := by constructor <;> simp

theorem State.serviceOut_steady (a : Nat) : s.Steady (s.serviceOut a) := by
  have hleft : s.Steady (s.leaveAttribution a) := .ite ⟨rfl, rfl, rfl⟩ (by constructor <;> simp)
  have hout : ∀ t : State, t.Steady (((t.modRecord a fun r => { r with condition := .outOfService, run := 0 }).endAdopt a
      |>.cancelReleaseIfMasking a).leaveUnlessListed a) := fun t => by constructor <;> simp
  exact .ite ⟨rfl, rfl, rfl⟩ (hleft.trans (hout _))

theorem State.serviceIn_steady (a : Nat) : s.Steady (s.serviceIn a) := by
  have hreleased : s.Steady (if 0 < (s.record a).dependents then s.queueRelease a else s) :=
    .ite (by constructor <;> simp) ⟨rfl, rfl, rfl⟩
  have hback : ∀ t : State, t.Steady
      ((t.modRecord a fun r => { r with condition := .unknown, run := 0, severity := .none }).leaveUnlessListed a) :=
    fun t => by constructor <;> simp
  exact hreleased.trans (hback _)

variable {s}

/-! ## Quiet unless READY -/

/-- A move of a READY correlator that leaves the state and the long command. -/
theorem State.QuietUnlessReady.steady (h : s.QuietUnlessReady) (hsteady : s.Steady t)
    (hready : s.correlator.state = .ready) : t.QuietUnlessReady := by
  refine ⟨fun b hb => ?_, fun n hn => ?_, fun hne => absurd (hsteady.state.trans hready) hne⟩
  · exact nomatch hready.symm.trans (h.clearing b (hsteady.long.symm.trans hb))
  · exact nomatch hready.symm.trans (h.validating n (hsteady.long.symm.trans hn))

/-- What keeps the state and the long command, and in a correlator that is not READY the faults, keeps it quiet. -/
theorem State.QuietUnlessReady.kept (h : s.QuietUnlessReady) (hstate : t.correlator.state = s.correlator.state)
    (hlong : t.agent.long = s.agent.long)
    (hquiet : s.correlator.state ≠ .ready → t.correlator = s.correlator ∧ t.board = s.board ∧ t.sweep = s.sweep) :
    t.QuietUnlessReady := by
  refine ⟨?_, ?_, fun hne => ?_⟩
  · rw [hlong, hstate]
    exact h.clearing
  · rw [hlong, hstate]
    exact h.validating
  · rw [hstate] at hne
    obtain ⟨hcorrelator, hboard, hsweep⟩ := hquiet hne
    rw [hcorrelator, hboard, hsweep]
    exact h.quiet hne

/-- Trunk entries written in a row, with the use of sources that follows, change the Trunk Map and the sources alone. -/
theorem State.followUse_putTrunks (s : State) (es : List Bytes) : ∃ sources,
    (es.foldl State.putTrunk s).followUse s = { s with
      tables.trunks := es.foldl (fun t e => tableSet none t (trunkSource e * 16 + trunkChannel e) (trunkOf e))
        s.tables.trunks
      sources := sources } := by
  rw [State.foldl_putTrunk, State.followUse]
  split
  · exact ⟨_, rfl⟩
  · exact ⟨s.sources, rfl⟩

/-- Every move keeps a correlator that is not READY quiet (R2). -/
theorem State.Move.quiet (hmove : s.Move t) (h : s.QuietUnlessReady) : t.QuietUnlessReady := by
  cases hmove with
  | outside ht =>
    obtain ⟨hstate, hrecords, hcount, hboard, hjobs, -, -, hlong⟩ := Core.mk.inj ht.core
    obtain ⟨hclearing, hvalidating, hquiet⟩ := h
    refine ⟨?_, ?_, ?_⟩
    · rwa [hlong, hstate]
    · rwa [hlong, hstate]
    · rwa [hstate, hrecords, hboard, hjobs, hcount]
  | long hclearing hvalidating =>
    exact ⟨fun b hb => absurd hb (hclearing b), fun n hn => absurd hn (hvalidating n), h.quiet⟩
  | item i v n hready => exact h.steady (s.processItem_steady ..) hready
  | holdoff hready => exact h.steady (s.setHoldoff_steady _) hready
  | scanned hready => exact h.steady s.scanOnce_steady hready
  | swept =>
    by_cases hready : s.correlator.state = .ready
    · exact h.steady s.sweepOnce_steady hready
    · obtain ⟨-, -, hjobs, -⟩ := h.quiet hready
      exact (State.sweepOnce_empty hjobs).symm ▸ h
  | unlatched hready => exact h.steady (s.clearLatch_steady _) hready
  | takenOut hready => exact h.steady (s.serviceOut_steady _) hready
  | returned hready => exact h.steady (s.serviceIn_steady _) hready
  | acknowledged hready => exact h.steady (s.queueAck_steady _) hready
  | @classWritten e =>
    refine h.kept (by simp) (by simp) fun hne => ?_
    have hkept : (s.putClass e).adjustRuns s = s.putClass e := if_neg (by simpa [State.ready] using hne)
    simp [hkept]
  | templatesWritten es =>
    rw [State.foldl_putTemplate]
    exact h.kept rfl rfl fun _ => ⟨rfl, rfl, rfl⟩
  | @assetsWritten es =>
    refine h.kept (by simp [State.foldl_putAsset]) (by simp [State.foldl_putAsset]) fun hne => ?_
    have hkept : (es.foldl State.putAsset s).adjustRuns s = es.foldl State.putAsset s :=
      if_neg (by simpa [State.ready, State.foldl_putAsset] using hne)
    rw [hkept, State.foldl_putAsset]
    exact ⟨rfl, rfl, rfl⟩
  | @trunksWritten es =>
    obtain ⟨sources, hwritten⟩ := s.followUse_putTrunks es
    rw [hwritten]
    exact h.kept rfl rfl fun _ => ⟨rfl, rfl, rfl⟩
  | powered => exact ⟨nofun, nofun, fun _ => ⟨rfl, rfl, rfl, rfl⟩⟩
  | initialised hinit =>
    have hlong : s.endInit.agent.long = s.agent.long := by simp [State.endInit]
    refine ⟨fun b hb => ?_, fun n hn => ?_, fun _ => by simp [State.endInit]⟩
    · exact nomatch hinit.symm.trans (h.clearing b (hlong ▸ hb))
    · exact nomatch hinit.symm.trans (h.validating n (hlong ▸ hn))
  | restarts full => exact ⟨fun _ _ => rfl, nofun, fun _ => ⟨rfl, rfl, rfl, rfl⟩⟩
  | @restarted toReady hlong =>
    have hquiet := h.quiet (by simp [h.clearing toReady hlong])
    cases toReady with
    | true => exact ⟨nofun, nofun, fun hne => absurd rfl hne⟩
    | false => exact ⟨nofun, nofun, fun _ => hquiet⟩
  | validates n hloading => exact ⟨nofun, fun _ _ => rfl, fun _ => h.quiet (by simp [hloading])⟩
  | served => exact ⟨nofun, nofun, fun hne => absurd rfl hne⟩
  | loadFailed hlong => exact ⟨nofun, nofun, fun _ => h.quiet (by simp [h.validating _ hlong])⟩

/-! ## Tables written -/

theorem State.TablesSound.congr (h : s.TablesSound) (htables : t.tables = s.tables) : t.TablesSound := by
  obtain ⟨hloaded, hparents, htrunks⟩ := h
  simp only [State.loadedClass, State.asset, ← htables] at hloaded hparents htrunks
  exact ⟨hloaded, hparents, htrunks⟩

/-- A class written stays loaded, and so does every other. -/
theorem State.TablesSound.putClass (h : s.TablesSound) (w : Table.wf none s.tables.classes) (e : Bytes) :
    (s.putClass e).TablesSound := by
  refine ⟨fun a ha => ?_, h.parents, h.trunks⟩
  have hread := tableGet_tableSet w (classIndex e) (some (classEntryOf e)) (s.asset a).cls
  show (tableGet none (tableSet none s.tables.classes (classIndex e) (some (classEntryOf e))) (s.asset a).cls).isSome
  rw [hread]
  split
  · rfl
  · exact h.loaded a ha

/-- Asset entries that pass the live test keep the parents and name loaded classes (R139). -/
theorem State.TablesSound.putAssets (h : s.TablesSound) (w : Table.wf unwrittenAsset s.tables.assets)
    (hready : s.correlator.state = .ready) {es : List Bytes} (htest : ∀ e ∈ es, s.assetTest e = none) :
    (es.foldl State.putAsset s).TablesSound := by
  have hasset : ∀ a, (es.foldl State.putAsset s).asset a = s.asset a ∨
      ∃ e ∈ es, assetIndex e = a ∧ (es.foldl State.putAsset s).asset a = assetOf e := by
    rw [State.foldl_putAsset]
    exact tableGet_foldl_writes w es
  have hclass : ∀ c, (es.foldl State.putAsset s).loadedClass c = s.loadedClass c := by
    rw [State.foldl_putAsset]
    exact fun _ => rfl
  have hcount : (es.foldl State.putAsset s).tables.assetCount = s.tables.assetCount := by rw [State.foldl_putAsset]
  have htrunks : (es.foldl State.putAsset s).tables.trunks = s.tables.trunks := by rw [State.foldl_putAsset]
  refine ⟨fun a ha => ?_, fun a ha => ?_, ?_⟩
  · rw [hclass]
    rcases hasset a with he | ⟨e, he, rfl, hnew⟩
    · rw [he]
      exact h.loaded a (hcount ▸ ha)
    · obtain ⟨-, -, c, hc, -⟩ := State.assetTest_eq_none (htest e he) hready
      rw [hnew, hc]
      rfl
  · rcases hasset a with he | ⟨e, he, rfl, hnew⟩
    · rw [he]
      exact h.parents a (hcount ▸ ha)
    · rw [hnew, (State.assetTest_eq_none (htest e he) hready).2.1]
      exact h.parents _ (hcount ▸ ha)
  · rw [hcount, htrunks]
    exact h.trunks

/-- Trunk entries that pass in READY lie within the asset count (R140). -/
theorem State.TablesSound.putTrunks (h : s.TablesSound) (w : Table.wf none s.tables.trunks)
    (hready : s.correlator.state = .ready) {es : List Bytes} (htest : ∀ e ∈ es, s.trunkTest e = none) :
    (es.foldl State.putTrunk s).TablesSound := by
  rw [State.foldl_putTrunk]
  refine ⟨h.loaded, h.parents, fun n hn r hr => ?_⟩
  rcases tableGet_foldl_writes (key := fun e => trunkSource e * 16 + trunkChannel e) (val := trunkOf) w es n with
    hold | ⟨e, he, -, hnew⟩
  · exact h.trunks n hn r (hold ▸ hr)
  · exact State.trunkTest_eq_none (htest e he) hready r (hnew.symm.trans hr)

/-- A validation that finds no failure makes the tables sound at its count (R142, R143). -/
theorem State.TablesSound.served {n : Nat} (h : validate s.tables n = none) : (s.enterService n).TablesSound := by
  obtain ⟨-, hloaded, hparents, htrunks⟩ := validate_eq_none h
  exact ⟨hloaded, hparents, htrunks⟩

/-- Tables that stay, in a correlator that is READY or returns to READY only where it was so before. -/
theorem State.ServiceSound.kept (h : s.ServiceSound) (hcanonical : t.Canonical) (hquiet : t.QuietUnlessReady)
    (htables : t.tables = s.tables) (hstate : t.correlator.state = .ready → s.correlator.state = .ready)
    (hlong : t.agent.long = some (.clearing true) → s.agent.long = some (.clearing true)) : t.ServiceSound :=
  ⟨hcanonical, hquiet, fun hr => (h.ready (hstate hr)).congr htables, fun hr => (h.returning (hlong hr)).congr htables⟩

/-- Tables written while they are open, where in READY they stay sound. -/
theorem State.ServiceSound.written (h : s.ServiceSound) (hcanonical : t.Canonical) (hquiet : t.QuietUnlessReady)
    (hopen : s.tablesOpen = true) (hstate : t.correlator.state = s.correlator.state)
    (hsound : s.correlator.state = .ready → s.TablesSound → t.TablesSound) : t.ServiceSound := by
  refine ⟨hcanonical, hquiet, fun hr => ?_, fun hb => ?_⟩
  · rw [hstate] at hr
    exact hsound hr (h.ready hr)
  · have hclearing := hstate.symm.trans (hquiet.clearing true hb)
    rcases s.tablesOpen_iff.mp hopen with ho | ho <;> exact nomatch ho.symm.trans hclearing

/-- Every move keeps the tables in service sound. -/
theorem State.Move.serviceSound (hmove : s.Move t) (h : s.ServiceSound) : t.ServiceSound := by
  have hcanonical := hmove.fits.canonical h.canonical
  have hquiet := hmove.quiet h.quiet
  have hsteady : s.Steady t → t.ServiceSound := fun ht =>
    h.kept hcanonical hquiet ht.tables ht.state.symm.trans ht.long.symm.trans
  cases hmove with
  | outside ht =>
    obtain ⟨hstate, -, -, -, -, -, htables, hlong⟩ := Core.mk.inj ht.core
    exact hsteady ⟨hstate, htables, hlong⟩
  | long hclearing => exact h.kept hcanonical hquiet rfl id fun hb => absurd hb (hclearing true)
  | item i v n => exact hsteady (s.processItem_steady ..)
  | holdoff => exact hsteady (s.setHoldoff_steady _)
  | scanned => exact hsteady s.scanOnce_steady
  | swept => exact hsteady s.sweepOnce_steady
  | unlatched => exact hsteady (s.clearLatch_steady _)
  | takenOut => exact hsteady (s.serviceOut_steady _)
  | returned => exact hsteady (s.serviceIn_steady _)
  | acknowledged => exact hsteady (s.queueAck_steady _)
  | @classWritten e hopen =>
    exact h.written hcanonical hquiet hopen (by simp) fun _ hs => (hs.putClass h.canonical.classes e).congr (by simp)
  | templatesWritten es =>
    rw [State.foldl_putTemplate] at hcanonical hquiet ⊢
    exact ⟨hcanonical, hquiet, fun hr => ⟨(h.ready hr).loaded, (h.ready hr).parents, (h.ready hr).trunks⟩,
      fun hr => ⟨(h.returning hr).loaded, (h.returning hr).parents, (h.returning hr).trunks⟩⟩
  | @assetsWritten es hopen htest =>
    exact h.written hcanonical hquiet hopen (by simp [State.foldl_putAsset]) fun hready hs =>
      (hs.putAssets h.canonical.assets hready htest).congr (by simp)
  | @trunksWritten es hopen htest =>
    obtain ⟨sources, hwritten⟩ := s.followUse_putTrunks es
    rw [hwritten] at hcanonical hquiet ⊢
    refine h.written hcanonical hquiet hopen rfl fun hready hs => ?_
    exact (hs.putTrunks h.canonical.trunks hready htest).congr (by rw [State.foldl_putTrunk])
  | powered => exact ⟨hcanonical, hquiet, nofun, nofun⟩
  | initialised hinit =>
    have hstate : s.endInit.correlator.state = .loading := by simp [State.endInit]
    refine ⟨hcanonical, hquiet, fun hr => ?_, fun hb => ?_⟩
    · exact nomatch hstate.symm.trans hr
    · exact nomatch hstate.symm.trans (hquiet.clearing true hb)
  | restarts full =>
    refine ⟨hcanonical, hquiet, nofun, fun hb => ?_⟩
    have hkept : (!full && s.ready) = true := by simpa [State.beginRestart] using hb
    obtain ⟨hfull, hready⟩ := (Bool.and_eq_true _ _).mp hkept
    obtain rfl : full = false := by simpa using hfull
    exact (h.ready (s.ready_iff.mp hready)).congr rfl
  | @restarted toReady hlong =>
    cases toReady with
    | true => exact ⟨hcanonical, hquiet, fun _ => (h.returning hlong).congr rfl, nofun⟩
    | false => exact ⟨hcanonical, hquiet, nofun, nofun⟩
  | validates => exact ⟨hcanonical, hquiet, nofun, nofun⟩
  | served _ hpassed => exact ⟨hcanonical, hquiet, fun _ => .served hpassed, nofun⟩
  | loadFailed => exact ⟨hcanonical, hquiet, nofun, nofun⟩

end

/-- Settles O57: every move keeps the tables in service sound. -/
theorem everyStepKeepsServiceTablesSound : Obligations.EveryStepKeepsServiceTablesSound := by
  unfold Obligations.EveryStepKeepsServiceTablesSound
  intro s t hs h
  have hpending : ∀ (s : State) q, s.ServiceSound → { s with pending := q }.ServiceSound := fun s q hs =>
    ⟨{ hs.canonical with }, { hs.quiet with }, fun hr => (hs.ready hr).congr rfl, fun hr => (hs.returning hr).congr rfl⟩
  exact step_keeps (fun hmove => hmove.serviceSound) hpending hs h

end Sys2Proof.Machine

/-! The runs of the records over every step (R5): a relation between two states that each operation on records meets. -/

namespace Sys2Proof.Machine

/-- Every listed record's run is within the bounds of the class governing it (R5). -/
def State.ListedRunsBounded (s : State) : Prop := ∀ e ∈ s.correlator.records, runBound (s.classOf e.1) e.2

/-- `t` has the tables of `s`, and its runs within their bounds if `s` had. -/
structure State.KeepsRuns (s t : State) : Prop where
  tables : t.tables = s.tables
  runs : s.ListedRunsBounded → t.ListedRunsBounded

/-- A clear record's run is within every bound. -/
theorem runBound_clearRecord (c : ClassEntry) : runBound c clearRecord := rfl

section
variable {s t u : State}

/-- In canonical form the bounds hold of every record exactly when they hold of every listed one. -/
theorem State.listedRunsBounded_iff (w : Table.wf clearRecord s.correlator.records) :
    s.ListedRunsBounded ↔ ∀ a, runBound (s.classOf a) (s.record a) := by
  constructor
  · intro h a
    rcases tableGet_mem clearRecord s.correlator.records a with hlisted | hclear
    · exact h _ hlisted
    · exact (show s.record a = clearRecord from hclear) ▸ runBound_clearRecord _
  · intro h e he
    have hread : s.record e.1 = e.2 := tableGet_of_mem w he
    exact hread ▸ h e.1

theorem State.KeepsRuns.refl (s : State) : s.KeepsRuns s := ⟨rfl, id⟩

theorem State.KeepsRuns.trans (h : s.KeepsRuns t) (h' : t.KeepsRuns u) : s.KeepsRuns u :=
  ⟨h'.tables.trans h.tables, h'.runs ∘ h.runs⟩

theorem State.KeepsRuns.ite {choice : Prop} [Decidable choice] (ht : choice → s.KeepsRuns t)
    (hu : ¬ choice → s.KeepsRuns u) : s.KeepsRuns (if choice then t else u) := by
  split
  · next h => exact ht h
  · next h => exact hu h

/-- What leaves the records and the tables keeps the runs. -/
theorem State.KeepsRuns.unchanged (htables : t.tables = s.tables) (hrecords : t.correlator.records = s.correlator.records) :
    s.KeepsRuns t :=
  ⟨htables, fun h => by simpa only [State.ListedRunsBounded, hrecords, State.classOf_congr htables] using h⟩

/-- A record changed by what keeps its run within its bounds. -/
theorem State.KeepsRuns.modRecord {a : Nat} {f : FaultRecord → FaultRecord}
    (h : runBound (s.classOf a) (s.record a) → runBound (s.classOf a) (f (s.record a))) : s.KeepsRuns (s.modRecord a f) := by
  refine ⟨rfl, fun hs e he => ?_⟩
  rcases mem_tableSet he with ⟨rfl, -⟩ | he
  · refine h ?_
    rcases tableGet_mem clearRecord s.correlator.records a with hlisted | hclear
    · exact hs _ hlisted
    · exact (show s.record a = clearRecord from hclear) ▸ runBound_clearRecord _
  · exact hs e he

/-- A record changed in neither its condition nor its run. -/
theorem State.KeepsRuns.modRecord_plain (a : Nat) {f : FaultRecord → FaultRecord}
    (h : ∀ r, (f r).condition = r.condition ∧ (f r).run = r.run) : s.KeepsRuns (s.modRecord a f) := by
  refine .modRecord fun hr => ?_
  obtain ⟨hcondition, hrun⟩ := h (s.record a)
  simpa only [runBound, hcondition, hrun] using hr

/-- A run of 0 is within the bounds of every condition but SUSPECT. -/
theorem runBound_zero {c : ClassEntry} {r : FaultRecord} (h : r.run = 0) (hcondition : r.condition ≠ .suspect) :
    runBound c r := by
  rw [runBound]
  split
  · next hsuspect => exact absurd hsuspect hcondition
  · omega
  all_goals exact h

/-- A record that takes run 0 in a condition other than SUSPECT. -/
theorem State.KeepsRuns.modRecord_zero (a : Nat) {f : FaultRecord → FaultRecord}
    (h : ∀ r, (f r).run = 0 ∧ (f r).condition ≠ .suspect) : s.KeepsRuns (s.modRecord a f) :=
  .modRecord fun _ => runBound_zero (h _).1 (h _).2

end

/-! ## The operations on records -/

section
variable (s : State)

theorem State.attribute_runs (e r : Nat) : s.KeepsRuns (s.attribute e r) :=
  have hcaused : s.KeepsRuns (s.modRecord e fun x => { x with cause := some r }) := .modRecord_plain e fun _ => ⟨rfl, rfl⟩
  hcaused.trans (.modRecord_plain r fun _ => ⟨rfl, rfl⟩)

theorem State.unattribute_runs (e : Nat) : s.KeepsRuns (s.unattribute e) := by
  simp only [State.unattribute]
  split
  · exact .refl s
  · have hfreed : s.KeepsRuns (s.modRecord e fun x => { x with cause := none }) := .modRecord_plain e fun _ => ⟨rfl, rfl⟩
    exact hfreed.trans (.modRecord_plain _ fun _ => ⟨rfl, rfl⟩)

theorem State.latch_runs (a : Nat) (l : Latch) : s.KeepsRuns (s.modRecord a fun r => { r with latch := l }) :=
  .modRecord_plain a fun _ => ⟨rfl, rfl⟩

theorem State.leaveUnlessListed_runs (a : Nat) : s.KeepsRuns (s.leaveUnlessListed a) := .unchanged (by simp) (by simp)

theorem State.clearLatch_runs (a : Nat) : s.KeepsRuns (s.clearLatch a) :=
  (s.latch_runs a .clear).trans (State.leaveUnlessListed_runs _ a)

theorem State.join_runs (a : Nat) : s.KeepsRuns (s.join a) := by
  refine .ite (fun _ => .refl s) fun _ => ?_
  have hstamped : s.KeepsRuns (s.modRecord a fun r => { r with joinedAt := some s.now }) :=
    .modRecord_plain a fun _ => ⟨rfl, rfl⟩
  exact hstamped.trans (.unchanged rfl rfl)

theorem State.adopt_runs (r e : Nat) : s.KeepsRuns (s.adopt r e) := by
  have hrest : ∀ t : State, t.KeepsRuns (t.withdraw e).uncountIndependent.raiseTally := fun t =>
    .unchanged (by simp) (by simp)
  exact ((s.attribute_runs e r).trans (State.latch_runs _ e .clear)).trans (hrest _)

theorem State.unmask_runs (e : Nat) : s.KeepsRuns (s.unmask e) := by
  have hcounted : ∀ t : State, t.KeepsRuns t.countIndependent := fun t => .unchanged rfl rfl
  have htold : ∀ (t : State) (n : Nat), t.KeepsRuns (t.requestFromRecord .unmasked e n) := fun t n =>
    .unchanged (by simp) (by simp)
  exact (((s.unattribute_runs e).trans (hcounted _)).trans (State.latch_runs _ e .held)).trans (htold ..)

theorem State.visit_runs (w : Walk) (e : Nat) : s.KeepsRuns (s.visit w e) := by
  have hmoved : s.KeepsRuns (s.moveWalk (s.successor e)) := .unchanged (by simp) (by simp)
  refine hmoved.trans ?_
  cases w with
  | adopt root => exact .ite (fun _ => State.adopt_runs ..) fun _ => .refl _
  | release root =>
    refine .ite (fun _ => ?_) fun _ => .refl _
    split
    · exact (State.unattribute_runs ..).trans (State.attribute_runs ..)
    · exact State.unmask_runs ..
  | ack zone => exact .ite (fun _ => State.clearLatch_runs ..) fun _ => .refl _

theorem State.sweepOnce_runs : s.KeepsRuns s.sweepOnce := by
  have hremoved : ∀ w, s.KeepsRuns (s.removeJob w) := fun w => .unchanged (by simp) (by simp)
  have hended : ∀ root, s.KeepsRuns (s.endAdopt root) := fun root => .unchanged (by simp) (by simp)
  simp only [State.sweepOnce]
  split
  · exact .refl s
  · next j _ _ =>
    refine .ite (fun _ => hremoved _) fun _ => ?_
    split
    · cases hw : j.walk with
      | adopt root => exact hended root
      | release | ack => exact hremoved _
    · exact s.visit_runs ..

theorem State.standAlone_runs (k : NoticeKind) (a : Nat) : s.KeepsRuns (s.standAlone k a) := by
  have hoffered : ∀ (t : State) (c : Condition) (v : Severity) (r : Option Nat) (n : Nat),
      t.KeepsRuns (((t.countIndependent.requestAsset k a c v r n).offerStorm).offerEscalation k a) := fun t c v r n =>
    .unchanged (by simp) (by simp)
  have hadopt : ∀ t : State, t.KeepsRuns (t.requestAdoptIfMasking a) := fun t => .unchanged (by simp) (by simp)
  rw [State.standAlone_eq]
  exact (((s.latch_runs a .held).trans (hoffered ..)).trans (State.join_runs _ a)).trans (hadopt _)

theorem State.enterFault_runs (a : Nat) {c : Condition} (hc : c ≠ .suspect) (v : Severity) :
    s.KeepsRuns (s.enterFault a c v) := by
  have hentered : s.KeepsRuns (s.modRecord a fun r =>
      { r with condition := c, run := 0, severity := v, qualifiedAt := some s.now }) :=
    .modRecord_zero a fun _ => ⟨rfl, hc⟩
  have hcancelled : ∀ t : State, t.KeepsRuns (t.cancelReleaseIfMasking a) := fun t => .unchanged (by simp) (by simp)
  exact hentered.trans (hcancelled _)

theorem State.qualify_runs (a : Nat) {c : Condition} (hc : c ≠ .suspect) (v : Severity) (k : NoticeKind) :
    s.KeepsRuns (s.qualify a c v k) := by
  refine (s.enterFault_runs a hc v).trans ?_
  simp only [State.qualify]
  split
  · exact (State.attribute_runs ..).trans (State.join_runs ..)
  · exact State.standAlone_runs ..

theorem State.settleRestored_runs (a : Nat) (v : Severity) (n : Nat) (b : Bool) :
    s.KeepsRuns (s.settleRestored a v n b) :=
  .ite (fun _ => .unchanged (by simp) (by simp)) fun _ => s.unattribute_runs a

theorem State.attemptRestore_runs (a : Nat) : s.KeepsRuns (s.attemptRestore a) := by
  have hnormal : s.KeepsRuns (s.modRecord a fun r => { r with condition := .normal, run := 0, severity := .none }) :=
    .modRecord_zero a fun _ => ⟨rfl, nofun⟩
  have hreleased : ∀ t : State, t.KeepsRuns (if 0 < (s.record a).dependents then t.queueRelease a else t) := fun t =>
    .ite (fun _ => .unchanged (by simp) (by simp)) fun _ => .refl t
  have hended : ∀ t : State, t.KeepsRuns (t.endAdopt a) := fun t => .unchanged (by simp) (by simp)
  refine .ite (fun _ => .refl s) fun _ => ?_
  exact (((hnormal.trans (hreleased _)).trans (State.settleRestored_runs ..)).trans
    (State.leaveUnlessListed_runs _ a)).trans (hended _)

/-- A count below Q stays in SUSPECT within its bound, and one that reaches it qualifies the record (R11, R13). -/
theorem State.suspect_runs (a n : Nat) (v : Severity) : s.KeepsRuns (s.suspect a n v) :=
  .ite (fun _ => s.qualify_runs a (c := .fault) nofun v .out) fun hbelow => .modRecord fun _ => Nat.lt_of_not_le hbelow

/-- A count is held at P in RECOVERING (R5, R11). -/
theorem State.recover_runs (a n : Nat) : s.KeepsRuns (s.recover a n) := by
  have hrecovering : s.KeepsRuns (s.modRecord a fun r =>
      { r with condition := .recovering, run := min n (s.classOf a).restoreCount }) :=
    .modRecord fun _ => Nat.min_le_right ..
  exact .ite (fun _ => hrecovering.trans (State.attemptRestore_runs _ a)) fun _ => hrecovering

theorem State.takeSeverity_runs (a : Nat) (v : Severity) : s.KeepsRuns (s.takeSeverity a v) := by
  have htaken : s.KeepsRuns (s.modRecord a fun r => { r with condition := .fault, run := 0, severity := v }) :=
    .modRecord_zero a fun _ => ⟨rfl, nofun⟩
  have htold : ∀ (t : State) (w : Severity) (n : Nat), t.KeepsRuns (t.requestAsset .changed a .fault w none n) :=
    fun t w n => .unchanged (by simp) (by simp)
  exact .ite (fun _ => htaken.trans (htold ..)) fun _ => htaken

theorem State.runMachine_runs (a : Nat) (st : Status) : s.KeepsRuns (s.runMachine a st) := by
  have hnotOk : ∀ v, s.KeepsRuns (s.machineNotOk a v) := by
    intro v
    simp only [State.machineNotOk]
    split
    case h_1 | h_2 | h_3 => exact s.suspect_runs ..
    case h_4 | h_5 | h_6 => exact s.takeSeverity_runs ..
    case h_7 => exact .refl s
  cases st with
  | ok =>
    simp only [State.runMachine, State.machineOk]
    split
    case h_1 | h_2 | h_3 => exact .modRecord_zero a fun _ => ⟨rfl, nofun⟩
    case h_4 | h_5 | h_6 => exact s.recover_runs ..
    case h_7 => exact .refl s
  | degraded | failed => exact hnotOk _

theorem State.judgeItem_runs (a : Nat) (st : Status) : s.KeepsRuns (s.judgeItem a st) := by
  refine .ite (fun _ => .refl s) fun _ => ?_
  have hscored : s.KeepsRuns (s.modRecord a (scoreRecord (s.classOf a) s.now st)) := .modRecord_plain a fun _ => ⟨rfl, rfl⟩
  have htold : ∀ (t : State) (k : NoticeKind) (n : Nat), t.KeepsRuns (t.requestFromRecord k a n) := fun t k n =>
    .unchanged (by simp) (by simp)
  have hflap : s.KeepsRuns (s.scoreFlap a st) := .ite (fun _ => hscored) fun _ => hscored.trans (htold ..)
  exact hflap.trans (State.runMachine_runs ..)

theorem State.processItem_runs (a : Nat) (i : Item) (st : Status) (n : Nat) : s.KeepsRuns (s.processItem a i st n) := by
  have hrefreshed : s.KeepsRuns (s.refresh a i n) := .modRecord_plain a fun _ => ⟨rfl, rfl⟩
  have hended : ∀ t : State, t.KeepsRuns (t.modRecord a fun r => { r with testUntil := none }) := fun t =>
    .modRecord_plain a fun _ => ⟨rfl, rfl⟩
  refine .ite (fun _ => .ite (fun _ => hrefreshed.trans (State.judgeItem_runs ..)) fun _ => ?_) fun _ =>
    (hrefreshed.trans (hended _)).trans (State.judgeItem_runs ..)
  exact hrefreshed.trans (.unchanged rfl rfl)

theorem State.scanOnce_runs : s.KeepsRuns s.scanOnce := by
  have hsilent : ∀ (t : State) (a : Nat), t.KeepsRuns (t.goSilent a) := by
    intro t a
    have hstanding : t.KeepsRuns (t.silenceStanding a) := by
      have htaken : t.KeepsRuns (t.modRecord a fun r => { r with condition := .silent, run := 0, severity := .major }) :=
        .modRecord_zero a fun _ => ⟨rfl, nofun⟩
      have htold : ∀ (t : State) (n : Nat), t.KeepsRuns (t.requestAsset .changed a .silent .major none n) := fun t n =>
        .unchanged (by simp) (by simp)
      exact .ite (fun _ => htaken.trans (htold ..)) fun _ => htaken
    simp only [State.goSilent]
    split
    case h_1 | h_2 => exact hstanding
    all_goals exact t.qualify_runs a (c := .silent) nofun ..
  have hmoved : s.KeepsRuns { s with scan := if s.scan + 1 < s.tables.assetCount then s.scan + 1 else 0 } :=
    .unchanged rfl rfl
  exact .ite (fun _ => hmoved.trans (hsilent ..)) fun _ => hmoved

theorem State.setHoldoff_runs (a : Nat) : s.KeepsRuns (s.setHoldoff a) :=
  .ite (fun _ => .modRecord_plain a fun _ => ⟨rfl, rfl⟩) fun _ => .refl s

theorem State.serviceOut_runs (a : Nat) : s.KeepsRuns (s.serviceOut a) := by
  have hleft : s.KeepsRuns (s.leaveAttribution a) := .ite (fun _ => .unchanged rfl rfl) fun _ => s.unattribute_runs a
  have hout : ∀ t : State, t.KeepsRuns (t.modRecord a fun r => { r with condition := .outOfService, run := 0 }) := fun t =>
    .modRecord_zero a fun _ => ⟨rfl, nofun⟩
  have hrest : ∀ t : State, t.KeepsRuns (((t.endAdopt a).cancelReleaseIfMasking a).leaveUnlessListed a) := fun t =>
    .unchanged (by simp) (by simp)
  exact .ite (fun _ => .refl s) fun _ => (hleft.trans (hout _)).trans (hrest _)

theorem State.serviceIn_runs (a : Nat) : s.KeepsRuns (s.serviceIn a) := by
  have hreleased : s.KeepsRuns (if 0 < (s.record a).dependents then s.queueRelease a else s) :=
    .ite (fun _ => .unchanged (by simp) (by simp)) fun _ => .refl s
  have hback : ∀ t : State, t.KeepsRuns
      (t.modRecord a fun r => { r with condition := .unknown, run := 0, severity := .none }) := fun t =>
    .modRecord_zero a fun _ => ⟨rfl, nofun⟩
  exact (hreleased.trans (hback _)).trans (State.leaveUnlessListed_runs _ a)

end

/-! ## Tables written -/

section
variable {s t : State}

/-- A loaded class in range has Q and P of 1 and more (R131). -/
theorem ClassEntry.counts_pos {c : ClassEntry} (h : c.inRange = true) : 1 ≤ c.qualifyCount ∧ 1 ≤ c.restoreCount := by
  simp only [ClassEntry.inRange, Bool.and_eq_true, decide_eq_true_eq] at h
  omega

/-- The run adjustment brings a run within the bounds of the class that governs it from now on (R5). -/
theorem runBound_adjustRun {old new : ClassEntry} {r : FaultRecord} (h : runBound old r)
    (hnew : old = new ∨ 1 ≤ new.qualifyCount) : runBound new (adjustRun old new r) := by
  by_cases hsuspect : r.condition = .suspect ∧ old.qualifyCount ≠ new.qualifyCount ∧ new.qualifyCount ≤ r.run
  · have hpositive : 1 ≤ new.qualifyCount := hnew.resolve_left fun he => hsuspect.2.1 (he ▸ rfl)
    rw [adjustRun, if_pos hsuspect]
    simp only [runBound, hsuspect.1]
    omega
  · by_cases hrecovering :
        r.condition = .recovering ∧ old.restoreCount ≠ new.restoreCount ∧ new.restoreCount ≤ r.run
    · rw [adjustRun, if_neg hsuspect, if_pos hrecovering]
      simp only [runBound, hrecovering.1]
      omega
    · rw [adjustRun, if_neg hsuspect, if_neg hrecovering]
      cases hcondition : r.condition <;> simp only [runBound, hcondition, true_and] at h hsuspect hrecovering ⊢
      case suspect | recovering => omega
      all_goals exact h

/-- The run adjustment after a change of the tables, where a record's new class is the old one or counts to 1 and more. -/
theorem State.RunsBounded.adjusted (h : s.RunsBounded) {u : State}
    (hcorrelator : u.correlator = s.correlator)
    (hclass : s.correlator.state = .ready → ∀ a, u.classOf a = s.classOf a ∨ 1 ≤ (u.classOf a).qualifyCount) :
    ∀ a, runBound ((u.adjustRuns s).classOf a) ((u.adjustRuns s).record a) := by
  intro a
  by_cases hready : s.correlator.state = .ready
  · have hready' : u.ready = true := by simpa [State.ready, hcorrelator] using hready
    have hread : (u.adjustRuns s).record a = adjustRun (s.classOf a) (u.classOf a) (s.record a) := by
      rw [State.adjustRuns, if_pos hready', State.record, State.record, ← hcorrelator]
      exact tableGet_tableMap (f := fun a r => adjustRun (s.classOf a) (u.classOf a) r)
        (hcorrelator ▸ h.canonical.records) (fun _ => rfl) a
    rw [hread, State.classOf_congr (t := u.adjustRuns s) (s := u) (by simp)]
    exact runBound_adjustRun (h.runs a) ((hclass hready a).imp_left Eq.symm)
  · have hkept : u.adjustRuns s = u := if_neg (by simpa [State.ready, hcorrelator] using hready)
    rw [hkept, State.record, hcorrelator, (h.quiet.quiet hready).1]
    exact runBound_clearRecord _

/-- The classes stay in range where none is written. -/
theorem State.ClassesInRange.congr (h : s.ClassesInRange) (hclasses : t.tables.classes = s.tables.classes) :
    t.ClassesInRange := by simpa only [State.ClassesInRange, State.loadedClass, hclasses] using h

/-- Runs within their bounds while the state, the tables, the records and the long command stay. -/
theorem State.RunsBounded.outside (h : s.RunsBounded) (ht : s.Outside t) (hquiet : t.QuietUnlessReady) : t.RunsBounded := by
  obtain ⟨-, hrecords, -, -, -, -, htables, -⟩ := Core.mk.inj ht.core
  refine ⟨ht.fits.canonical h.canonical, hquiet, h.classes.congr (congrArg _ htables), fun a => ?_⟩
  rw [State.classOf_congr htables, State.record_congr hrecords]
  exact h.runs a

/-- The runs while no record is listed. -/
theorem State.RunsBounded.empty (hcanonical : t.Canonical) (hquiet : t.QuietUnlessReady) (hclasses : t.ClassesInRange)
    (hrecords : t.correlator.records = []) : t.RunsBounded := by
  refine ⟨hcanonical, hquiet, hclasses, fun a => ?_⟩
  rw [State.record, hrecords]
  exact runBound_clearRecord _

/-- An operation on records keeps the runs bounded. -/
theorem State.RunsBounded.kept (h : s.RunsBounded) (hcanonical : t.Canonical) (hquiet : t.QuietUnlessReady)
    (hruns : s.KeepsRuns t) : t.RunsBounded :=
  ⟨hcanonical, hquiet, h.classes.congr (congrArg _ hruns.tables),
    (State.listedRunsBounded_iff hcanonical.records).mp
      (hruns.runs ((State.listedRunsBounded_iff h.canonical.records).mpr h.runs))⟩

/-- A class written in range leaves the classes in range, and changes the class of an asset to one that counts. -/
theorem State.ClassesInRange.putClass (h : s.ClassesInRange) (w : Table.wf none s.tables.classes) {e : Bytes}
    (hrange : (classEntryOf e).inRange = true) :
    (s.putClass e).ClassesInRange ∧
      ∀ a, (s.putClass e).classOf a = s.classOf a ∨ 1 ≤ ((s.putClass e).classOf a).qualifyCount := by
  have hread : ∀ n, (s.putClass e).loadedClass n = if n = classIndex e then some (classEntryOf e) else s.loadedClass n :=
    tableGet_tableSet w (classIndex e) (some (classEntryOf e))
  constructor
  · intro n c hc
    rw [hread] at hc
    split at hc
    · exact Option.some.inj hc ▸ hrange
    · exact h n c hc
  · intro a
    have hclass : (s.putClass e).classOf a = ((s.putClass e).loadedClass (s.asset a).cls).getD notLoadedClass := rfl
    rw [hclass, hread]
    split
    · exact .inr (ClassEntry.counts_pos hrange).1
    · exact .inl rfl

/-- Asset entries that pass the live test name classes that count. -/
theorem State.ClassesInRange.putAssets (h : s.ClassesInRange) (w : Table.wf unwrittenAsset s.tables.assets)
    (hready : s.correlator.state = .ready) {es : List Bytes} (htest : ∀ e ∈ es, s.assetTest e = none) (a : Nat) :
    (es.foldl State.putAsset s).classOf a = s.classOf a ∨ 1 ≤ ((es.foldl State.putAsset s).classOf a).qualifyCount := by
  rw [State.foldl_putAsset]
  rcases tableGet_foldl_writes (key := assetIndex) (val := assetOf) w es a with hold | ⟨e, he, -, hnew⟩
  · exact .inl (by simp only [State.classOf, State.asset, State.loadedClass, hold])
  · obtain ⟨-, -, c, hc, -⟩ := State.assetTest_eq_none (htest e he) hready
    refine .inr ?_
    simp only [State.classOf, State.asset, State.loadedClass, hnew] at hc ⊢
    rw [hc]
    exact (ClassEntry.counts_pos (h _ _ hc)).1

/-- Every move keeps the runs bounded, where what it leaves is canonical and quiet unless READY. -/
theorem State.Move.runsBounded (hmove : s.Move t) (h : s.RunsBounded) (hquiet : t.QuietUnlessReady) : t.RunsBounded := by
  have hcanonical := hmove.fits.canonical h.canonical
  cases hmove with
  | outside ht => exact h.outside ht hquiet
  | long => exact h.kept hcanonical hquiet (.unchanged rfl rfl)
  | item i v n => exact h.kept hcanonical hquiet (s.processItem_runs ..)
  | holdoff => exact h.kept hcanonical hquiet (s.setHoldoff_runs _)
  | scanned => exact h.kept hcanonical hquiet s.scanOnce_runs
  | swept => exact h.kept hcanonical hquiet s.sweepOnce_runs
  | unlatched => exact h.kept hcanonical hquiet (s.clearLatch_runs _)
  | takenOut => exact h.kept hcanonical hquiet (s.serviceOut_runs _)
  | returned => exact h.kept hcanonical hquiet (s.serviceIn_runs _)
  | acknowledged => exact h.kept hcanonical hquiet (.unchanged (by simp) (by simp))
  | @classWritten e _ htest =>
    obtain ⟨hclasses, hclass⟩ := h.classes.putClass h.canonical.classes (State.classTest_eq_none htest).1
    exact ⟨hcanonical, hquiet, hclasses.congr (by simp), h.adjusted rfl fun _ => hclass⟩
  | templatesWritten es =>
    rw [State.foldl_putTemplate] at hcanonical hquiet ⊢
    exact ⟨hcanonical, hquiet, h.classes, h.runs⟩
  | @assetsWritten es _ htest =>
    refine ⟨hcanonical, hquiet, h.classes.congr (by simp [State.foldl_putAsset]), h.adjusted ?_ fun hready => ?_⟩
    · rw [State.foldl_putAsset]
    · exact h.classes.putAssets h.canonical.assets hready htest
  | @trunksWritten es =>
    obtain ⟨sources, hwritten⟩ := s.followUse_putTrunks es
    rw [hwritten] at hcanonical hquiet ⊢
    exact ⟨hcanonical, hquiet, h.classes, h.runs⟩
  | powered => exact .empty hcanonical hquiet nofun rfl
  | initialised =>
    exact .empty hcanonical hquiet (h.classes.congr (by simp [State.endInit])) (by simp [State.endInit])
  | restarts full =>
    refine .empty hcanonical hquiet ?_ rfl
    cases full with
    | true => exact nofun
    | false => exact h.classes
  | @restarted toReady => cases toReady <;> exact h.kept hcanonical hquiet (.unchanged rfl rfl)
  | validates n => exact h.kept hcanonical hquiet (.unchanged rfl rfl)
  | served hlong =>
    have hstate := h.quiet.validating _ hlong
    exact .empty hcanonical hquiet (h.classes.congr rfl) (h.quiet.quiet (by simp [hstate])).1
  | loadFailed => exact h.kept hcanonical hquiet (.unchanged rfl rfl)

end

/-- Settles O58: every move keeps the runs bounded, and a correlator that is not READY quiet. -/
theorem everyStepKeepsRunsBounded : Obligations.EveryStepKeepsRunsBounded := by
  unfold Obligations.EveryStepKeepsRunsBounded
  intro s t hs h
  have hpending : ∀ (s : State) q, s.RunsBounded → { s with pending := q }.RunsBounded := fun s q hs =>
    ⟨{ hs.canonical with }, { hs.quiet with }, hs.classes, hs.runs⟩
  exact step_keeps (fun hmove hs => hmove.runsBounded hs (hmove.quiet hs.quiet)) hpending hs h

end Sys2Proof.Machine

/-! The attribution of faults over every step (R4, R45, R46, R70): an operation on one record leaves the invariant of all the
others, and settles that one at its end. -/

namespace Sys2Proof.Machine

/-! ## Counting records -/

section
variable {α : Type} [DecidableEq α] {d : α}

/-- A write exchanges what was read for what is written in a count that leaves out the unlisted value. -/
theorem countP_tableSet {t : Table α} (w : Table.wf d t) {p : α → Bool} (hd : p d = false) (i : Nat) (x : α) :
    (tableSet d t i x).countP (fun e => p e.2) + (p (tableGet d t i)).toNat =
      t.countP (fun e => p e.2) + (p x).toNat := by
  obtain ⟨hrising, -⟩ := w
  have hx : x = d → (p x).toNat = 0 := by rintro rfl; simp [hd]
  have hone : ∀ v : α, (if p v = true then 1 else 0) = (p v).toNat := fun v => by cases p v <;> rfl
  induction t with
  | nil =>
    by_cases hxd : x = d
    · simp [tableSet, tableGet, hxd]
    · simp [tableSet, tableGet, hxd, hd, List.countP_cons, hone]
  | cons e t ih =>
    obtain ⟨k, v⟩ := e
    obtain ⟨hbelow, hrest⟩ := List.pairwise_cons.mp hrising
    rcases Nat.lt_trichotomy i k with hik | rfl | hki
    · have hread : tableGet d ((k, v) :: t) i = d := tableGet_of_lt fun e he => by
        rcases List.mem_cons.mp he with rfl | he
        · exact hik
        · exact hik.trans (hbelow e he)
      by_cases hxd : x = d
      · simp [tableSet, hik, hread, hxd]
      · simp [tableSet, hik, hread, hxd, hd, List.countP_cons, hone]
    · have hread : tableGet d ((i, v) :: t) i = v := by simp [tableGet]
      by_cases hxd : x = d
      · simp [tableSet, hread, hxd, hd, List.countP_cons, hone]
      · simp only [tableSet, hread, hxd, List.countP_cons, hone, Nat.lt_irrefl, if_false, if_true]
        omega
    · have hread : tableGet d ((k, v) :: t) i = tableGet d t i := by simp [tableGet, Nat.ne_of_gt hki]
      have hset : tableSet d ((k, v) :: t) i x = (k, v) :: tableSet d t i x := by
        simp [tableSet, Nat.not_lt_of_gt hki, Nat.ne_of_gt hki]
      rw [hread, hset, List.countP_cons, List.countP_cons]
      have := ih hrest
      omega

/-- A change of every value that keeps what is counted keeps the count. -/
theorem countP_tableMap {t : Table α} {p : α → Bool} (hd : p d = false) {f : Nat → α → α} (hf : ∀ i x, p (f i x) = p x) :
    (tableMap d f t).countP (fun e => p e.2) = t.countP (fun e => p e.2) := by
  rw [tableMap, List.countP_filter, List.countP_map]
  refine List.countP_congr fun e _ => ?_
  simp only [Function.comp_apply, Bool.and_eq_true, decide_eq_true_eq, hf]
  exact ⟨And.left, fun he => ⟨he, fun hclear => by rw [← hf e.1, hclear, hd] at he; exact nomatch he⟩⟩

end

/-- The number of records of which `p` holds. -/
def State.countOf (s : State) (p : FaultRecord → Bool) : Nat := s.correlator.records.countP fun e => p e.2

section
variable {s : State} {a root : Nat}

/-- Every record after the change of one. -/
theorem State.record_modRecord (w : Table.wf clearRecord s.correlator.records) (a : Nat) (f : FaultRecord → FaultRecord)
    (b : Nat) : (s.modRecord a f).record b = if b = a then f (s.record a) else s.record b := s.record_setRecord w ..

theorem State.countOf_modRecord (w : Table.wf clearRecord s.correlator.records) {p : FaultRecord → Bool}
    (hp : p clearRecord = false) (a : Nat) (f : FaultRecord → FaultRecord) :
    (s.modRecord a f).countOf p + (p (s.record a)).toNat = s.countOf p + (p (f (s.record a))).toNat :=
  countP_tableSet w hp ..

/-- A change of a record that keeps what is counted keeps the count. -/
theorem State.countOf_modRecord_same (w : Table.wf clearRecord s.correlator.records) {p : FaultRecord → Bool}
    (hp : p clearRecord = false) (a : Nat) {f : FaultRecord → FaultRecord} (hf : ∀ r, p (f r) = p r) :
    (s.modRecord a f).countOf p = s.countOf p := by
  have := State.countOf_modRecord w hp a f
  rw [hf] at this
  omega

/-- Every record after an attribution (R45). -/
theorem State.record_attribute (w : Table.wf clearRecord s.correlator.records) (b : Nat) :
    (s.attribute a root).record b = { s.record b with
      cause := if b = a then some root else (s.record b).cause
      dependents := (s.record b).dependents + if b = root then 1 else 0 } := by
  rw [State.attribute, State.record_modRecord (tableSet_wf w ..), State.record_modRecord w, State.record_modRecord w]
  by_cases hroot : b = root
  · subst hroot
    by_cases ha : b = a
    · subst ha; simp
    · simp [ha]
  · by_cases ha : b = a
    · subst ha; simp [hroot]
    · simp [hroot, ha]

theorem State.countOf_attribute (w : Table.wf clearRecord s.correlator.records) {p : FaultRecord → Bool}
    (hp : p clearRecord = false) (hdependents : ∀ (r : FaultRecord) n, p { r with dependents := n } = p r) :
    (s.attribute a root).countOf p + (p (s.record a)).toNat =
      s.countOf p + (p { s.record a with cause := some root }).toNat := by
  rw [State.attribute, State.countOf_modRecord_same (tableSet_wf w ..) hp root fun r => hdependents r _]
  exact State.countOf_modRecord w hp a _

/-- A record with a cause loses it in two writes (R45). -/
theorem State.unattribute_some (hcause : (s.record a).cause = some root) : s.unattribute a =
    (s.modRecord a fun r => { r with cause := none }).modRecord root
      fun r => { r with dependents := r.dependents - 1 } := by
  simp [State.unattribute, hcause]

/-- Every record after the loss of a cause (R45). -/
theorem State.record_unattribute (w : Table.wf clearRecord s.correlator.records)
    (hcause : (s.record a).cause = some root) (b : Nat) : (s.unattribute a).record b = { s.record b with
      cause := if b = a then none else (s.record b).cause
      dependents := (s.record b).dependents - if b = root then 1 else 0 } := by
  rw [State.unattribute_some hcause, State.record_modRecord (tableSet_wf w ..), State.record_modRecord w,
    State.record_modRecord w]
  by_cases hroot : b = root
  · subst hroot
    by_cases ha : b = a
    · subst ha; simp
    · simp [ha]
  · by_cases ha : b = a
    · subst ha; simp [hroot]
    · simp [hroot, ha]

theorem State.countOf_unattribute (w : Table.wf clearRecord s.correlator.records)
    (hcause : (s.record a).cause = some root) {p : FaultRecord → Bool}
    (hp : p clearRecord = false) (hdependents : ∀ (r : FaultRecord) n, p { r with dependents := n } = p r) :
    (s.unattribute a).countOf p + (p (s.record a)).toNat = s.countOf p + (p { s.record a with cause := none }).toNat := by
  rw [State.unattribute_some hcause, State.countOf_modRecord_same (tableSet_wf w ..) hp root fun r => hdependents r _]
  exact State.countOf_modRecord w hp a _

/-- The record of an asset counts towards every count that holds of it. -/
theorem State.one_le_countOf {p : FaultRecord → Bool} (hp : p clearRecord = false) (ha : p (s.record a) = true) :
    1 ≤ s.countOf p := by
  rcases tableGet_mem clearRecord s.correlator.records a with hlisted | hclear
  · exact List.one_le_countP_iff.mpr ⟨_, hlisted, ha⟩
  · rw [show s.record a = clearRecord from hclear, hp] at ha
    exact nomatch ha

end

/-! ## Attribution but for one record -/

/-- Causes, dependents, the independent-fault count and the list agree, but that the standing of record `a` is open: its
condition, its latch and its place on the list; the count takes it as independent if `own`. -/
structure State.AttributedBut (s : State) (a : Nat) (own : Bool) : Prop where
  canonical : Table.wf clearRecord s.correlator.records
  causeFaulted : ∀ b, b ≠ a → (s.record b).cause ≠ none → (s.record b).faulted = true
  dependents : ∀ x, (s.record x).dependents = s.countOf fun r => decide (r.cause = some x)
  independents : s.correlator.independentCount + (s.record a).independent.toNat =
    s.countOf FaultRecord.independent + own.toNat
  listed : ∀ b, b ≠ a → (b ∈ s.board ↔ (s.record b).listed = true)
  once : s.board.Nodup

section
variable {s t : State} {a : Nat} {own : Bool}

/-- The attribution of all but one record, whose standing counts as it is. -/
theorem State.Attributed.but (h : s.Attributed) (a : Nat) : s.AttributedBut a (s.record a).independent :=
  ⟨h.canonical, fun b _ => h.causeFaulted b, h.dependents, congrArg (· + _) h.independents, fun b _ => h.listed b, h.once⟩

/-- The attribution of all but one record, once that record is settled. -/
theorem State.AttributedBut.settled (h : s.AttributedBut a own) (hown : (s.record a).independent = own)
    (hcause : (s.record a).cause ≠ none → (s.record a).faulted = true)
    (hlisted : a ∈ s.board ↔ (s.record a).listed = true) : s.Attributed := by
  refine ⟨h.canonical, fun b => ?_, h.dependents, ?_, fun b => ?_, h.once⟩
  · by_cases hb : b = a
    · exact hb ▸ hcause
    · exact h.causeFaulted b hb
  · have := h.independents
    rw [hown] at this
    exact Nat.add_right_cancel this
  · by_cases hb : b = a
    · exact hb ▸ hlisted
    · exact h.listed b hb

/-- The invariant, read from the records, the count and the list alone. -/
theorem State.AttributedBut.congr (h : s.AttributedBut a own) (hrecords : t.correlator.records = s.correlator.records)
    (hcount : t.correlator.independentCount = s.correlator.independentCount) (hboard : t.board = s.board) :
    t.AttributedBut a own := by
  obtain ⟨hcanonical, hcause, hdependents, hindependents, hlisted, honce⟩ := h
  have hrecord := State.record_congr hrecords
  constructor <;> simpa only [hrecord, State.countOf, hrecords, hcount, hboard]

theorem State.Attributed.congr (h : s.Attributed) (hrecords : t.correlator.records = s.correlator.records)
    (hcount : t.correlator.independentCount = s.correlator.independentCount) (hboard : t.board = s.board) :
    t.Attributed := by
  obtain ⟨hcanonical, hcause, hdependents, hindependents, hlisted, honce⟩ := h
  have hrecord := State.record_congr hrecords
  constructor <;> simpa only [hrecord, hrecords, hcount, hboard]

/-! ### Operations on the record -/

/-- The record changed in neither its cause nor its dependents. -/
theorem State.AttributedBut.modRecord (h : s.AttributedBut a own) {f : FaultRecord → FaultRecord}
    (hcause : ∀ r, (f r).cause = r.cause) (hdependents : ∀ r, (f r).dependents = r.dependents) :
    (s.modRecord a f).AttributedBut a own := by
  have hread := State.record_modRecord h.canonical a f
  refine ⟨tableSet_wf h.canonical .., fun b hb => ?_, fun x => ?_, ?_, fun b hb => ?_, h.once⟩
  · rw [hread, if_neg hb]
    exact h.causeFaulted b hb
  · have hkept : ((s.modRecord a f).record x).dependents = (s.record x).dependents := by
      rw [hread]
      split
      · next hx => rw [hdependents, hx]
      · rfl
    rw [hkept, State.countOf_modRecord_same h.canonical (p := fun r => decide (r.cause = some x)) rfl a
      fun r => by simp only [hcause]]
    exact h.dependents x
  · have hcount := State.countOf_modRecord h.canonical (p := FaultRecord.independent) rfl a f
    have := h.independents
    rw [hread, if_pos rfl]
    show s.correlator.independentCount + _ = _
    omega
  · rw [hread, if_neg hb]
    exact h.listed b hb

/-- The record takes a cause where it has none (R45). -/
theorem State.AttributedBut.attribute (h : s.AttributedBut a own) (hnone : (s.record a).cause = none) (root : Nat) :
    (s.attribute a root).AttributedBut a own := by
  have hread := State.record_attribute (s := s) (a := a) (root := root) h.canonical
  refine ⟨tableSet_wf (tableSet_wf h.canonical ..) .., fun b hb => ?_, fun x => ?_, ?_, fun b hb => ?_, h.once⟩
  · rw [hread]
    simp only [hb, if_false]
    exact h.causeFaulted b hb
  · have hcount := State.countOf_attribute (s := s) (a := a) (root := root) h.canonical
      (p := fun r => decide (r.cause = some x)) rfl fun _ _ => rfl
    have := h.dependents x
    simp only [hnone, reduceCtorEq, decide_false, Bool.toNat_false, Option.some.injEq, Nat.add_zero] at hcount
    rw [hread, hcount, this]
    by_cases hx : x = root
    · simp [hx]
    · simp [hx, Ne.symm hx]
  · have hcount := State.countOf_attribute (s := s) (a := a) (root := root) h.canonical
      (p := FaultRecord.independent) rfl fun _ _ => rfl
    have hsame : ((s.attribute a root).record a).independent = { s.record a with cause := some root }.independent := by
      rw [hread]
      simp only [if_true]
      rfl
    have := h.independents
    rw [hsame]
    show s.correlator.independentCount + _ = _
    omega
  · rw [hread]
    exact h.listed b hb

/-- The record loses its cause, if it has one (R45). -/
theorem State.AttributedBut.unattribute (h : s.AttributedBut a own) : (s.unattribute a).AttributedBut a own := by
  cases hcause : (s.record a).cause with
  | none =>
    have hkept : s.unattribute a = s := by simp [State.unattribute, hcause]
    exact hkept.symm ▸ h
  | some root =>
    have hread := State.record_unattribute h.canonical hcause
    have hboard : (s.unattribute a).board = s.board := by simp
    have hindependent : (s.unattribute a).correlator.independentCount = s.correlator.independentCount := by simp
    refine ⟨?_, fun b hb => ?_, fun x => ?_, ?_, fun b hb => ?_, hboard ▸ h.once⟩
    · rw [State.unattribute_some hcause]
      exact tableSet_wf (tableSet_wf h.canonical ..) ..
    · rw [hread]
      simp only [hb, if_false]
      exact h.causeFaulted b hb
    · have hcount := State.countOf_unattribute h.canonical hcause (p := fun r => decide (r.cause = some x)) rfl
        fun _ _ => rfl
      have := h.dependents x
      simp only [hcause, reduceCtorEq, decide_false, Bool.toNat_false, Option.some.injEq, Nat.add_zero] at hcount
      rw [hread]
      by_cases hx : x = root
      · simp only [hx, decide_true, Bool.toNat_true, if_true] at hcount this ⊢
        omega
      · simp only [hx, Ne.symm hx, decide_false, Bool.toNat_false, if_false] at hcount ⊢
        omega
    · have hcount := State.countOf_unattribute h.canonical hcause (p := FaultRecord.independent) rfl fun _ _ => rfl
      have hsame : ((s.unattribute a).record a).independent = { s.record a with cause := none }.independent := by
        rw [hread]
        simp only [if_true]
        rfl
      have := h.independents
      rw [hsame, hindependent]
      omega
    · rw [hread, hboard]
      exact h.listed b hb

/-- The count takes the record in. -/
theorem State.AttributedBut.count (h : s.AttributedBut a false) : s.countIndependent.AttributedBut a true := by
  refine ⟨h.canonical, h.causeFaulted, h.dependents, ?_, h.listed, h.once⟩
  have : s.correlator.independentCount + (s.record a).independent.toNat = s.countOf FaultRecord.independent :=
    h.independents
  show s.correlator.independentCount + 1 + (s.record a).independent.toNat = s.countOf FaultRecord.independent + 1
  omega

/-- The count leaves the record out. -/
theorem State.AttributedBut.uncount (h : s.AttributedBut a true) : s.uncountIndependent.AttributedBut a false := by
  refine ⟨h.canonical, h.causeFaulted, h.dependents, ?_, h.listed, h.once⟩
  have hcount : s.correlator.independentCount + (s.record a).independent.toNat =
    s.countOf FaultRecord.independent + 1 := h.independents
  have hpositive : (s.record a).independent.toNat ≤ s.countOf FaultRecord.independent := by
    cases hind : (s.record a).independent with
    | false => exact Nat.zero_le _
    | true => exact State.one_le_countOf rfl hind
  show s.correlator.independentCount - 1 + (s.record a).independent.toNat = s.countOf FaultRecord.independent
  omega

/-- The record joins the list, and is on it. -/
theorem State.AttributedBut.join (h : s.AttributedBut a own) :
    (s.join a).AttributedBut a own ∧ a ∈ (s.join a).board := by
  by_cases ha : a ∈ s.board
  · rw [State.join_listed ha]
    exact ⟨h, ha⟩
  · have hstamped := h.modRecord (f := fun r => { r with joinedAt := some s.now }) (fun _ => rfl) fun _ => rfl
    rw [State.join, if_neg ha]
    refine ⟨⟨hstamped.canonical, hstamped.causeFaulted, hstamped.dependents, hstamped.independents, fun b hb => ?_, ?_⟩,
      by simp⟩
    · exact (by simp [hb] : b ∈ s.board ++ [a] ↔ b ∈ s.board).trans (hstamped.listed b hb)
    · exact List.nodup_append.mpr ⟨h.once, by simp, fun b hb c hc => by rintro rfl; simp_all⟩

/-- The record leaves the list unless it is faulted or HELD, and is on it exactly when it is. -/
theorem State.AttributedBut.leaveUnlessListed (h : s.AttributedBut a own)
    (honBoard : (s.record a).listed = true → a ∈ s.board) :
    (s.leaveUnlessListed a).AttributedBut a own ∧
      (a ∈ (s.leaveUnlessListed a).board ↔ (s.record a).listed = true) := by
  by_cases hlisted : (s.record a).listed = true
  · rw [State.leaveUnlessListed, if_pos hlisted]
    exact ⟨h, fun _ => hlisted, honBoard⟩
  · have hleft : (s.leave a).AttributedBut a own := by
      have hrecords : (s.leave a).correlator = s.correlator := by simp
      obtain ⟨hcanonical, hcause, hdependents, hindependents, hother, honce⟩ := h
      have hrecord : ∀ b, (s.leave a).record b = s.record b := State.record_congr (congrArg _ hrecords)
      refine ⟨hrecords ▸ hcanonical, ?_, ?_, ?_, fun b hb => ?_, ?_⟩
      · simpa only [hrecord]
      · simpa only [hrecord, State.countOf, hrecords]
      · simpa only [hrecord, State.countOf, hrecords]
      · rw [State.mem_leave honce, hrecord, ← hother b hb]
        exact ⟨And.right, fun hmem => ⟨hb, hmem⟩⟩
      · simp only [State.leave]
        split
        · exact honce.erase a
        · exact honce
    rw [State.leaveUnlessListed, if_neg hlisted]
    exact ⟨hleft, fun hmem => absurd hmem (State.not_mem_leave h.once a), fun hyes => absurd hyes hlisted⟩

/-- A record changed in none of its standing, its latch, its cause and its dependents. -/
theorem State.Attributed.modRecord (h : s.Attributed) (b : Nat) {f : FaultRecord → FaultRecord}
    (hfaulted : (f (s.record b)).faulted = (s.record b).faulted) (hlatch : (f (s.record b)).latch = (s.record b).latch)
    (hcause : ∀ r, (f r).cause = r.cause) (hdependents : ∀ r, (f r).dependents = r.dependents) :
    (s.modRecord b f).Attributed := by
  have hread : (s.modRecord b f).record b = f (s.record b) := State.record_setRecord_self h.canonical b _
  refine ((h.but b).modRecord hcause hdependents).settled ?_ ?_ ?_
  · rw [hread, FaultRecord.independent, FaultRecord.independent, hfaulted, hcause]
  · rw [hread, hcause, hfaulted]
    exact h.causeFaulted b
  · rw [hread, FaultRecord.listed, hfaulted, hlatch]
    exact h.listed b

/-- A record that is neither faulted nor under a cause, and counted so, is settled once it is on the list exactly when
HELD. -/
theorem State.AttributedBut.settledClear (h : s.AttributedBut a false) (hfaulted : (s.record a).faulted = false)
    (hcause : (s.record a).cause = none) (hlisted : a ∈ s.board ↔ (s.record a).listed = true) : s.Attributed :=
  h.settled (by simp [FaultRecord.independent, hfaulted]) (fun hne => absurd hcause hne) hlisted

/-- A faulted record under a cause is settled once it is on the list. -/
theorem State.AttributedBut.settledUnder (h : s.AttributedBut a false) (hfaulted : (s.record a).faulted = true)
    {root : Nat} (hcause : (s.record a).cause = some root) (hlisted : a ∈ s.board) : s.Attributed :=
  h.settled (by simp [FaultRecord.independent, hcause]) (fun _ => hfaulted)
    ⟨fun _ => by simp [FaultRecord.listed, hfaulted], fun _ => hlisted⟩

/-- A faulted record under no cause is settled once it is on the list and counted. -/
theorem State.AttributedBut.settledAlone (h : s.AttributedBut a true) (hfaulted : (s.record a).faulted = true)
    (hcause : (s.record a).cause = none) (hlisted : a ∈ s.board) : s.Attributed :=
  h.settled (by simp [FaultRecord.independent, hcause, hfaulted]) (fun _ => hfaulted)
    ⟨fun _ => by simp [FaultRecord.listed, hfaulted], fun _ => hlisted⟩

/-- A record that is not faulted has no cause. -/
theorem State.Attributed.cause_none (h : s.Attributed) (ha : (s.record a).faulted = false) : (s.record a).cause = none := by
  by_contra hne
  exact nomatch (h.causeFaulted a hne).symm.trans ha

/-- A faulted record is on the list. -/
theorem State.Attributed.mem_board (h : s.Attributed) (ha : (s.record a).faulted = true) : a ∈ s.board :=
  (h.listed a).mpr (by simp [FaultRecord.listed, ha])

/-- A join changes a record's joined-at alone. -/
theorem State.record_join (w : Table.wf clearRecord s.correlator.records) (a b : Nat) :
    ∃ time, (s.join a).record b = { s.record b with joinedAt := time } := by
  by_cases ha : a ∈ s.board
  · exact ⟨_, by rw [State.join_listed ha]⟩
  · rw [State.join, if_neg ha]
    have hread := State.record_modRecord w a (fun r => { r with joinedAt := some s.now }) b
    by_cases hb : b = a
    · exact ⟨some s.now, hread.trans (by rw [if_pos hb, hb])⟩
    · exact ⟨_, hread.trans (if_neg hb)⟩

end

/-! ## The Correlator -/

section
variable {s : State} {a : Nat}

/-- A record enters a fault, its standing open. -/
theorem State.Attributed.enterFault (h : s.Attributed) (hfresh : (s.record a).faulted = false) (c : Condition)
    (v : Severity) : (s.enterFault a c v).AttributedBut a false ∧ ((s.enterFault a c v).record a).condition = c ∧
      ((s.enterFault a c v).record a).cause = none := by
  have hopen := h.but a
  have hread : (s.enterFault a c v).record a =
      { s.record a with condition := c, run := 0, severity := v, qualifiedAt := some s.now } := by
    have hwritten := State.record_setRecord_self h.canonical a
      { s.record a with condition := c, run := 0, severity := v, qualifiedAt := some s.now }
    exact (State.record_congr (by simp [State.enterFault, State.modRecord]) a).trans hwritten
  rw [show (s.record a).independent = false by simp [FaultRecord.independent, hfresh]] at hopen
  have hentered := hopen.modRecord
    (f := fun r => { r with condition := c, run := 0, severity := v, qualifiedAt := some s.now }) (fun _ => rfl) fun _ => rfl
  refine ⟨?_, by rw [hread], by rw [hread]; exact h.cause_none hfresh⟩
  exact hentered.congr (by simp [State.enterFault]) (by simp [State.enterFault]) (by simp [State.enterFault])

/-- A faulted record with no cause takes the independent outcome (R16). -/
theorem State.AttributedBut.standAlone (h : s.AttributedBut a false) (hfaulted : (s.record a).faulted = true)
    (hcause : (s.record a).cause = none) (k : NoticeKind) : (s.standAlone k a).Attributed := by
  have hheld := (h.modRecord (f := fun r => { r with latch := .held }) (fun _ => rfl) fun _ => rfl).count
  have hread : (s.modRecord a fun r => { r with latch := .held }).countIndependent.record a =
      { s.record a with latch := .held } := State.record_setRecord_self h.canonical ..
  rw [State.standAlone_eq]
  set held := (s.modRecord a fun r => { r with latch := .held }).countIndependent
  set offered := ((held.requestAsset k a (held.record a).condition (held.record a).severity none
    (held.record a).dependents).offerStorm).offerEscalation k a with hoffered
  have hrecords : offered.correlator.records = held.correlator.records := by simp [hoffered]
  have hopen : offered.AttributedBut a true := hheld.congr hrecords (by simp [hoffered]) (by simp [hoffered])
  obtain ⟨hjoined, hboard⟩ := hopen.join
  obtain ⟨time, hstamp⟩ := State.record_join hopen.canonical a a
  rw [State.record_congr hrecords, hread] at hstamp
  have hsettled := hjoined.settledAlone (by rw [hstamp]; exact hfaulted) (by rw [hstamp]; exact hcause) hboard
  exact hsettled.congr (by simp) (by simp) (by simp)

/-- A record that is not faulted qualifies. -/
theorem State.Attributed.qualify (h : s.Attributed) (hfresh : (s.record a).faulted = false) {c : Condition}
    (hc : c.faulted = true) (v : Severity) (k : NoticeKind) : (s.qualify a c v k).Attributed := by
  obtain ⟨hopen, hcondition, hcause⟩ := h.enterFault hfresh c v
  have hfaulted : ((s.enterFault a c v).record a).faulted = true := by rw [FaultRecord.faulted, hcondition, hc]
  simp only [State.qualify]
  split
  · next root hroot =>
    have hattributed := hopen.attribute hcause root
    have hread := State.record_attribute (a := a) (root := root) hopen.canonical a
    obtain ⟨hjoined, hboard⟩ := hattributed.join
    obtain ⟨time, hstamp⟩ := State.record_join hattributed.canonical a a
    rw [hread] at hstamp
    exact hjoined.settledUnder (root := root) (by rw [hstamp]; exact hfaulted) (by rw [hstamp]; exact if_pos rfl) hboard
  · exact hopen.standAlone hfaulted hcause k

/-- The attribution at the end of a restore: the record has no cause, and is not counted (R20). -/
theorem State.AttributedBut.settleRestored (h : s.AttributedBut a (s.record a).cause.isNone) (v : Severity) (n : Nat) :
    (s.settleRestored a v n (s.record a).cause.isNone).AttributedBut a false ∧
      ((s.settleRestored a v n (s.record a).cause.isNone).record a).cause = none ∧
      ((s.settleRestored a v n (s.record a).cause.isNone).record a).condition = (s.record a).condition ∧
      ((s.settleRestored a v n (s.record a).cause.isNone).record a).latch = (s.record a).latch := by
  cases hcause : (s.record a).cause with
  | none =>
    rw [hcause] at h
    have hrecord : (s.settleRestored a v n true).record a = s.record a := State.record_congr (by simp [State.settleRestored]) a
    refine ⟨h.uncount.congr (by simp [State.settleRestored]) (by simp [State.settleRestored])
      (by simp [State.settleRestored]), ?_⟩
    simp only [Option.isNone_none, hrecord, hcause, and_self]
  | some root =>
    rw [hcause] at h
    have hread : (s.settleRestored a v n false).record a = _ := State.record_unattribute h.canonical hcause a
    refine ⟨h.unattribute, ?_⟩
    simp only [Option.isNone_some, hread, if_true, and_self]

/-- A faulted record is restored. -/
theorem State.Attributed.restore (h : s.Attributed) (hfaulted : (s.record a).faulted = true) : (s.restore a).Attributed := by
  have hopen := h.but a
  rw [show (s.record a).independent = (s.record a).cause.isNone by simp [FaultRecord.independent, hfaulted]] at hopen
  set normal := s.modRecord a fun r => { r with condition := .normal, run := 0, severity := .none } with hnormal
  have hread : normal.record a = { s.record a with condition := .normal, run := 0, severity := .none } :=
    State.record_setRecord_self h.canonical ..
  set queued := if 0 < (s.record a).dependents then normal.queueRelease a else normal with hqueued
  have hframe : queued.correlator.records = normal.correlator.records ∧
      queued.correlator.independentCount = normal.correlator.independentCount ∧ queued.board = s.board := by
    rw [hqueued]
    split <;> simp [hnormal]
  obtain ⟨hrecords, hcount, hboard⟩ := hframe
  have hrecord : queued.record a = _ := (State.record_congr hrecords a).trans hread
  have hstill : queued.AttributedBut a (queued.record a).cause.isNone := by
    have hmod : normal.AttributedBut a (s.record a).cause.isNone := hopen.modRecord (fun _ => rfl) fun _ => rfl
    rw [hrecord]
    exact hmod.congr hrecords hcount hboard
  obtain ⟨hsettled, hcause, hcondition, hlatch⟩ :=
    hstill.settleRestored (s.record a).severity (s.record a).dependents
  have hindependent : (queued.record a).cause.isNone = (s.record a).cause.isNone := by rw [hrecord]
  rw [hindependent] at hsettled hcause hcondition hlatch
  set freed := queued.settleRestored a (s.record a).severity (s.record a).dependents (s.record a).cause.isNone with hfreed
  have hnotFaulted : (freed.record a).faulted = false := by rw [FaultRecord.faulted, hcondition, hrecord]; rfl
  obtain ⟨hleft, hlisted⟩ := hsettled.leaveUnlessListed fun _ => by
    have hkept : freed.board = queued.board := by simp [hfreed]
    rw [hkept, hboard]
    exact h.mem_board hfaulted
  have hsame : (freed.leaveUnlessListed a).record a = freed.record a := State.record_congr (by simp) a
  have hdone : (freed.leaveUnlessListed a).Attributed :=
    hleft.settledClear (hsame ▸ hnotFaulted) (hsame ▸ hcause) (by rw [hsame]; exact hlisted)
  exact hdone.congr (by simp [State.restore, hfreed, hqueued, hnormal]) (by simp [State.restore, hfreed, hqueued, hnormal])
    (by simp [State.restore, hfreed, hqueued, hnormal])

/-- A latch cleared takes a record that is not faulted off the list (R75). -/
theorem State.Attributed.clearLatch (h : s.Attributed) (a : Nat) : (s.clearLatch a).Attributed := by
  have hopen := (h.but a).modRecord (f := fun r => { r with latch := .clear }) (fun _ => rfl) fun _ => rfl
  have hread : (s.modRecord a fun r => { r with latch := .clear }).record a = { s.record a with latch := .clear } :=
    State.record_setRecord_self h.canonical ..
  obtain ⟨hleft, hlisted⟩ := hopen.leaveUnlessListed fun hstays => by
    refine h.mem_board ?_
    rw [hread] at hstays
    simpa [FaultRecord.listed, FaultRecord.faulted] using hstays
  have hsame : (s.clearLatch a).record a = { s.record a with latch := .clear } :=
    (State.record_congr (by simp [State.clearLatch]) a).trans hread
  refine hleft.settled (by exact hsame ▸ rfl) ?_ ?_
  · show ((s.clearLatch a).record a).cause ≠ none → ((s.clearLatch a).record a).faulted = true
    rw [hsame]
    exact h.causeFaulted a
  · show a ∈ (s.clearLatch a).board ↔ ((s.clearLatch a).record a).listed = true
    rw [hsame, ← hread]
    exact hlisted

/-- A record in service is taken out of it (R22). -/
theorem State.Attributed.serviceOut (h : s.Attributed) (a : Nat) : (s.serviceOut a).Attributed := by
  simp only [State.serviceOut]
  split
  · exact h
  · have hfreed : (s.leaveAttribution a).AttributedBut a false ∧ ((s.leaveAttribution a).record a).cause = none ∧
        ((s.leaveAttribution a).record a).latch = (s.record a).latch ∧ (s.leaveAttribution a).board = s.board := by
      have hopen := h.but a
      cases hindependent : (s.record a).independent with
      | true =>
        rw [hindependent] at hopen
        have hcause : (s.record a).cause = none := by
          simpa [FaultRecord.independent] using ((Bool.and_eq_true _ _).mp hindependent).2
        rw [State.leaveAttribution, if_pos hindependent]
        exact ⟨hopen.uncount, hcause, rfl, rfl⟩
      | false =>
        rw [hindependent] at hopen
        rw [State.leaveAttribution, if_neg (by simp [hindependent])]
        refine ⟨hopen.unattribute, ?_⟩
        cases hcause : (s.record a).cause with
        | none => simp [State.unattribute, hcause]
        | some root => simp [State.record_unattribute h.canonical hcause a]
    obtain ⟨hopen, hcause, hlatch, hboard⟩ := hfreed
    set freed := s.leaveAttribution a
    set out := freed.modRecord a fun r => { r with condition := .outOfService, run := 0 } with hout
    have hread : out.record a = { freed.record a with condition := .outOfService, run := 0 } :=
      State.record_setRecord_self hopen.canonical ..
    set ended := (out.endAdopt a).cancelReleaseIfMasking a with hended
    have hsame : ended.record a = { freed.record a with condition := .outOfService, run := 0 } :=
      (State.record_congr (by simp [hended]) a).trans hread
    have hmod : out.AttributedBut a false := hopen.modRecord (fun _ => rfl) fun _ => rfl
    have hstill : ended.AttributedBut a false := hmod.congr (by simp [hended]) (by simp [hended]) (by simp [hended])
    obtain ⟨hleft, hlisted⟩ := hstill.leaveUnlessListed fun hstays => by
      have hkept : ended.board = s.board := by simp [hended, hout, hboard]
      rw [hkept]
      refine (h.listed a).mpr ?_
      have hheld : (s.record a).latch = .held := by
        rw [hsame] at hstays
        simpa [FaultRecord.listed, FaultRecord.faulted, Condition.faulted, hlatch] using hstays
      simp [FaultRecord.listed, hheld]
    have hlast : (ended.leaveUnlessListed a).record a = ended.record a := State.record_congr (by simp) a
    exact hleft.settledClear (by rw [hlast, hsame]; rfl) (by rw [hlast, hsame]; exact hcause) (by rw [hlast]; exact hlisted)

/-- A record OUT_OF_SERVICE is returned to service (R24). -/
theorem State.Attributed.serviceIn (h : s.Attributed) (hout : (s.record a).condition = .outOfService) :
    (s.serviceIn a).Attributed := by
  have hfresh : (s.record a).faulted = false := by rw [FaultRecord.faulted, hout]; rfl
  have hopen := h.but a
  rw [show (s.record a).independent = false by simp [FaultRecord.independent, hfresh]] at hopen
  set queued := if 0 < (s.record a).dependents then s.queueRelease a else s with hqueued
  have hframe : queued.correlator.records = s.correlator.records ∧
      queued.correlator.independentCount = s.correlator.independentCount ∧ queued.board = s.board := by
    rw [hqueued]
    split <;> simp
  obtain ⟨hrecords, hcount, hboard⟩ := hframe
  have hstill := hopen.congr hrecords hcount hboard
  set back := queued.modRecord a fun r => { r with condition := .unknown, run := 0, severity := .none } with hback
  have hread : back.record a = { s.record a with condition := .unknown, run := 0, severity := .none } := by
    have hwritten : back.record a = { queued.record a with condition := .unknown, run := 0, severity := .none } :=
      State.record_setRecord_self hstill.canonical ..
    rw [hwritten, State.record_congr hrecords]
  have hmod : back.AttributedBut a false := hstill.modRecord (fun _ => rfl) fun _ => rfl
  obtain ⟨hleft, hlisted⟩ := hmod.leaveUnlessListed fun hstays => by
    show a ∈ queued.board
    rw [hboard]
    refine (h.listed a).mpr ?_
    have hheld : (s.record a).latch = .held := by
      rw [hread] at hstays
      simpa [FaultRecord.listed, FaultRecord.faulted, Condition.faulted] using hstays
    simp [FaultRecord.listed, hheld]
  have hlast : (back.leaveUnlessListed a).record a = back.record a := State.record_congr (by simp) a
  exact hleft.settledClear (by rw [hlast, hread]; rfl) (by rw [hlast, hread]; exact h.cause_none hfresh)
    (by rw [hlast]; exact hlisted)

/-! ## The condition machine -/

theorem State.Attributed.attemptRestore (h : s.Attributed) (hfaulted : (s.record a).faulted = true) :
    (s.attemptRestore a).Attributed := by
  simp only [State.attemptRestore]
  split
  · exact h
  · exact h.restore hfaulted

theorem State.Attributed.recover (h : s.Attributed) (hfaulted : (s.record a).faulted = true) (n : Nat) :
    (s.recover a n).Attributed := by
  set recovering := s.modRecord a fun r =>
    { r with condition := .recovering, run := min n (s.classOf a).restoreCount } with hrecovering
  have hmod : recovering.Attributed := h.modRecord a hfaulted.symm rfl (fun _ => rfl) fun _ => rfl
  have hread : recovering.record a =
      { s.record a with condition := .recovering, run := min n (s.classOf a).restoreCount } :=
    State.record_setRecord_self h.canonical ..
  simp only [State.recover]
  split
  · exact hmod.attemptRestore (by rw [hread]; rfl)
  · exact hmod

theorem State.Attributed.suspect (h : s.Attributed) (hfresh : (s.record a).faulted = false) (n : Nat) (v : Severity) :
    (s.suspect a n v).Attributed := by
  simp only [State.suspect]
  split
  · exact h.qualify hfresh rfl v .out
  · exact h.modRecord a hfresh.symm rfl (fun _ => rfl) fun _ => rfl

/-- A standing fault that changes its condition and is told of (R11, R90). -/
theorem State.Attributed.stand (h : s.Attributed) (hfaulted : (s.record a).faulted = true) {c : Condition}
    (hc : c.faulted = true) (v : Severity) :
    (s.modRecord a fun r => { r with condition := c, run := 0, severity := v }).Attributed :=
  h.modRecord a (by rw [hfaulted]; exact hc) rfl (fun _ => rfl) fun _ => rfl

theorem State.Attributed.takeSeverity (h : s.Attributed) (hfaulted : (s.record a).faulted = true) (v : Severity) :
    (s.takeSeverity a v).Attributed := by
  have hstands := h.stand hfaulted (c := .fault) rfl v
  simp only [State.takeSeverity]
  split
  · exact hstands.congr (by simp) (by simp) (by simp)
  · exact hstands

theorem State.Attributed.runMachine (h : s.Attributed) (a : Nat) (st : Status) : (s.runMachine a st).Attributed := by
  have hfaulted : ∀ {c : Condition} {f : Bool}, (s.record a).condition = c → c.faulted = f → (s.record a).faulted = f :=
    fun hc hf => by rw [FaultRecord.faulted, hc, hf]
  have hnotOk : ∀ v, (s.machineNotOk a v).Attributed := by
    intro v
    simp only [State.machineNotOk]
    split
    case h_1 hc | h_2 hc | h_3 hc => exact h.suspect (hfaulted hc rfl) ..
    case h_4 hc | h_5 hc | h_6 hc => exact h.takeSeverity (hfaulted hc rfl) v
    case h_7 => exact h
  cases st with
  | ok =>
    simp only [State.runMachine, State.machineOk]
    split
    case h_1 hc | h_2 hc | h_3 hc =>
      exact h.modRecord a (hfaulted hc rfl).symm rfl (fun _ => rfl) fun _ => rfl
    case h_4 hc | h_5 hc | h_6 hc => exact h.recover (hfaulted hc rfl) _
    case h_7 => exact h
  | degraded | failed => exact hnotOk _

theorem State.Attributed.processItem (h : s.Attributed) (a : Nat) (i : Item) (st : Status) (n : Nat) :
    (s.processItem a i st n).Attributed := by
  have hjudged : ∀ {t : State}, t.Attributed → (t.judgeItem a st).Attributed := by
    intro t ht
    have hscored : (t.modRecord a (scoreRecord (t.classOf a) t.now st)).Attributed :=
      ht.modRecord a rfl rfl (fun _ => rfl) fun _ => rfl
    have hflap : (t.scoreFlap a st).Attributed := by
      simp only [State.scoreFlap]
      split
      · exact hscored
      · exact hscored.congr (by simp) (by simp) (by simp)
    simp only [State.judgeItem]
    split
    · exact ht
    · exact hflap.runMachine a st
  have hrefreshed : (s.refresh a i n).Attributed := h.modRecord a rfl rfl (fun _ => rfl) fun _ => rfl
  simp only [State.processItem]
  split
  · split
    · exact hjudged hrefreshed
    · exact hrefreshed.congr rfl rfl rfl
  · exact hjudged (hrefreshed.modRecord a rfl rfl (fun _ => rfl) fun _ => rfl)

theorem State.Attributed.goSilent (h : s.Attributed) (hcondition : (s.record a).condition ≠ .silent) :
    (s.goSilent a).Attributed := by
  have hstanding : (s.record a).faulted = true → (s.silenceStanding a).Attributed := by
    intro hfaulted
    have hstands := h.stand hfaulted (c := .silent) rfl .major
    simp only [State.silenceStanding]
    split
    · exact hstands.congr (by simp) (by simp) (by simp)
    · exact hstands
  simp only [State.goSilent]
  split
  case h_1 hc | h_2 hc => exact hstanding (by rw [FaultRecord.faulted, hc]; rfl)
  case h_6 hc => exact absurd hc hcondition
  all_goals
    next hc => exact h.qualify (by rw [FaultRecord.faulted, hc]; rfl) rfl ..

/-- A record found silent is in a condition that the scanner considers (R88). -/
theorem State.silentNow_condition (h : s.silentNow a = true) : (s.record a).condition ≠ .silent := by
  intro hsilent
  simp [State.silentNow, hsilent, Condition.scanned] at h

theorem State.Attributed.scanOnce (h : s.Attributed) : s.scanOnce.Attributed := by
  set moved : State := { s with scan := if s.scan + 1 < s.tables.assetCount then s.scan + 1 else 0 } with hscan
  have hvisit : s.scanOnce = if moved.silentNow s.scan then moved.goSilent s.scan else moved := rfl
  have hmoved : moved.Attributed := h.congr rfl rfl rfl
  rw [hvisit]
  split
  · next hsilent => exact hmoved.goSilent (State.silentNow_condition hsilent)
  · exact hmoved

/-! ## The Sweep Engine -/

/-- An independent record is adopted (R59). -/
theorem State.Attributed.adopt (h : s.Attributed) {e : Nat} (hindependent : (s.record e).independent = true) (root : Nat) :
    (s.adopt root e).Attributed := by
  obtain ⟨hfaulted, hnone⟩ := (Bool.and_eq_true _ _).mp hindependent
  have hcause : (s.record e).cause = none := by simpa using hnone
  have hopen := h.but e
  rw [hindependent] at hopen
  have hattributed := hopen.attribute hcause root
  have hread := State.record_attribute (a := e) (root := root) h.canonical e
  set cleared := (s.attribute e root).modRecord e fun r => { r with latch := .clear } with hcleared
  have hlatch : cleared.record e = { (s.attribute e root).record e with latch := .clear } :=
    State.record_setRecord_self hattributed.canonical ..
  have hmod : cleared.AttributedBut e true := hattributed.modRecord (fun _ => rfl) fun _ => rfl
  have hwithdrawn : (cleared.withdraw e).AttributedBut e true := hmod.congr (by simp) (by simp) (by simp)
  have hsettled : (cleared.withdraw e).uncountIndependent.Attributed := by
    refine hwithdrawn.uncount.settledUnder (root := root) ?_ ?_ (h.mem_board hfaulted) <;>
      show _ = _ <;> rw [show (cleared.withdraw e).uncountIndependent.record e = cleared.record e from rfl, hlatch, hread]
    · exact hfaulted
    · exact if_pos rfl
  exact hsettled.congr (by simp [State.adopt, hcleared]) (by simp [State.adopt, hcleared])
    (by simp [State.adopt, hcleared])

/-- A record under a cause takes another (R64). -/
theorem State.Attributed.reattribute (h : s.Attributed) {e root : Nat} (hcause : (s.record e).cause = some root)
    (b : Nat) : ((s.unattribute e).attribute e b).Attributed := by
  have hfaulted := h.causeFaulted e (by simp [hcause])
  have hopen := h.but e
  rw [show (s.record e).independent = false by simp [FaultRecord.independent, hcause]] at hopen
  have hfreed := hopen.unattribute
  have hread := State.record_unattribute h.canonical hcause e
  have hattributed := hfreed.attribute (by rw [hread]; exact if_pos rfl) b
  have hagain := State.record_attribute (a := e) (root := b) hfreed.canonical e
  refine hattributed.settledUnder (root := b) ?_ ?_ ?_
  · rw [hagain, hread]
    exact hfaulted
  · rw [hagain]
    exact if_pos rfl
  · have hboard : ((s.unattribute e).attribute e b).board = s.board := by simp
    rw [hboard]
    exact h.mem_board hfaulted

/-- A record under a cause is unmasked (R65). -/
theorem State.Attributed.unmask (h : s.Attributed) {e root : Nat} (hcause : (s.record e).cause = some root) :
    (s.unmask e).Attributed := by
  have hfaulted := h.causeFaulted e (by simp [hcause])
  have hopen := h.but e
  rw [show (s.record e).independent = false by simp [FaultRecord.independent, hcause]] at hopen
  have hread := State.record_unattribute h.canonical hcause e
  set counted := (s.unattribute e).countIndependent with hcounted
  have hstill : counted.AttributedBut e true := hopen.unattribute.count
  set held := counted.modRecord e fun r => { r with latch := .held } with hheld
  have hlatch : held.record e = { (s.unattribute e).record e with latch := .held } :=
    State.record_setRecord_self hstill.canonical ..
  have hmod : held.AttributedBut e true := hstill.modRecord (fun _ => rfl) fun _ => rfl
  have hsettled : held.Attributed := by
    refine hmod.settledAlone ?_ ?_ ?_
    · rw [hlatch, hread]
      exact hfaulted
    · rw [hlatch, hread]
      exact if_pos rfl
    · have hboard : held.board = s.board := by simp [hheld, hcounted]
      rw [hboard]
      exact h.mem_board hfaulted
  exact hsettled.congr (by simp [State.unmask, hheld, hcounted]) (by simp [State.unmask, hheld, hcounted])
    (by simp [State.unmask, hheld, hcounted])

theorem State.Attributed.visit (h : s.Attributed) (w : Walk) (e : Nat) : (s.visit w e).Attributed := by
  have hmoved : (s.moveWalk (s.successor e)).Attributed := h.congr (by simp) (by simp) (by simp)
  simp only [State.visit]
  cases w with
  | adopt root =>
    simp only [State.adoptVisit]
    split
    · next hadoptable =>
      obtain ⟨-, hfaulted, hcause, -⟩ := (State.adoptable_iff ..).mp hadoptable
      exact hmoved.adopt (by simp [FaultRecord.independent, hfaulted, hcause]) root
    · exact hmoved
  | release root =>
    simp only [State.releaseVisit]
    split
    · next hcause =>
      split
      · exact hmoved.reattribute hcause _
      · exact hmoved.unmask hcause
    · exact hmoved
  | ack zone =>
    simp only [State.ackVisit]
    split
    · exact hmoved.clearLatch e
    · exact hmoved

theorem State.Attributed.sweepOnce (h : s.Attributed) : s.sweepOnce.Attributed := by
  have hremoved : ∀ w, (s.removeJob w).Attributed := fun w => h.congr (by simp) (by simp) (by simp)
  have hended : ∀ root, (s.endAdopt root).Attributed := fun root => h.congr (by simp) (by simp) (by simp)
  simp only [State.sweepOnce]
  split
  · exact h
  · next j _ _ =>
    split
    · exact hremoved _
    · split
      · cases hw : j.walk with
        | adopt root => exact hended root
        | release | ack => exact hremoved _
      · exact h.visit ..

/-! ## Every step -/

/-- The run adjustment changes the runs alone. -/
theorem State.Attributed.adjustRuns (h : s.Attributed) (u : State) : (s.adjustRuns u).Attributed := by
  have hadjust := fun a => adjustRun_eq (u.classOf a) (s.classOf a)
  simp only [State.adjustRuns]
  split
  · set f := fun a r => adjustRun (u.classOf a) (s.classOf a) r
    have hread : ∀ b, ∃ n, tableGet clearRecord (tableMap clearRecord f s.correlator.records) b =
        { s.record b with run := n } := fun b => by
      obtain ⟨n, hn⟩ := hadjust b (s.record b)
      exact ⟨n, (tableGet_tableMap h.canonical f (fun _ => rfl) b).trans hn⟩
    have hcount : ∀ p : FaultRecord → Bool, p clearRecord = false → (∀ (r : FaultRecord) n, p { r with run := n } = p r) →
        (tableMap clearRecord f s.correlator.records).countP (fun e => p e.2) =
          s.correlator.records.countP fun e => p e.2 := fun p hp hrun =>
      countP_tableMap hp fun a r => by
        obtain ⟨n, hn⟩ := hadjust a r
        exact (congrArg p hn).trans (hrun r n)
    refine ⟨tableMap_wf h.canonical f, fun b => ?_, fun x => ?_, ?_, fun b => ?_, h.once⟩
    · obtain ⟨n, hn⟩ := hread b
      simp only [State.record, hn]
      exact h.causeFaulted b
    · obtain ⟨n, hn⟩ := hread x
      simp only [State.record, hn]
      rw [hcount (fun r => decide (r.cause = some x)) rfl fun _ _ => rfl]
      exact h.dependents x
    · rw [hcount FaultRecord.independent rfl fun _ _ => rfl]
      exact h.independents
    · obtain ⟨n, hn⟩ := hread b
      simp only [State.record, hn]
      exact h.listed b
  · exact h

/-- No record, no fault counted and an empty list agree. -/
theorem State.Attributed.empty (hrecords : s.correlator.records = []) (hcount : s.correlator.independentCount = 0)
    (hboard : s.board = []) : s.Attributed := by
  have hread : ∀ b, s.record b = clearRecord := fun b => by rw [State.record, hrecords, tableGet_nil]
  refine ⟨hrecords ▸ wf_nil _, fun b => ?_, fun x => ?_, ?_, fun b => ?_, hboard ▸ List.nodup_nil⟩
  · rw [hread]
    exact fun hne => absurd rfl hne
  · rw [hread, hrecords]
    rfl
  · rw [hcount, hrecords]
    rfl
  · rw [hread, hboard]
    exact ⟨nofun, nofun⟩

/-- Every move keeps the faults attributed. -/
theorem State.Move.attributed {t : State} (hmove : s.Move t) (h : s.Attributed) : t.Attributed := by
  cases hmove with
  | outside ht =>
    obtain ⟨-, hrecords, hcount, hboard, -⟩ := Core.mk.inj ht.core
    exact h.congr hrecords hcount hboard
  | long => exact h.congr rfl rfl rfl
  | item i v n => exact h.processItem ..
  | holdoff =>
    simp only [State.setHoldoff]
    split
    · exact h.modRecord _ rfl rfl (fun _ => rfl) fun _ => rfl
    · exact h
  | scanned => exact h.scanOnce
  | swept => exact h.sweepOnce
  | unlatched => exact h.clearLatch _
  | takenOut => exact h.serviceOut _
  | returned _ _ hout => exact h.serviceIn hout
  | acknowledged => exact h.congr (by simp) (by simp) (by simp)
  | @classWritten e =>
    have hput : (s.putClass e).Attributed := h.congr rfl rfl rfl
    exact hput.adjustRuns s
  | templatesWritten es =>
    rw [State.foldl_putTemplate]
    exact h.congr rfl rfl rfl
  | @assetsWritten es =>
    have hput : (es.foldl State.putAsset s).Attributed := by
      rw [State.foldl_putAsset]
      exact h.congr rfl rfl rfl
    exact hput.adjustRuns s
  | @trunksWritten es =>
    obtain ⟨sources, hwritten⟩ := s.followUse_putTrunks es
    rw [hwritten]
    exact h.congr rfl rfl rfl
  | powered => exact .empty rfl rfl rfl
  | initialised => exact .empty (by simp [State.endInit]) (by simp [State.endInit]) (by simp [State.endInit])
  | restarts full => exact .empty rfl rfl rfl
  | @restarted toReady => cases toReady <;> exact h.congr rfl rfl rfl
  | validates => exact h.congr rfl rfl rfl
  | @served n =>
    obtain ⟨table, hserved, -⟩ := s.enterService_eq n
    rw [hserved]
    exact h.congr rfl rfl rfl
  | loadFailed => exact h.congr rfl rfl rfl

end

end Sys2Proof.Machine

/-! The roots of the causes over every step (R3, R46, R63, R66): an operation on one record leaves every other cause standing,
and settles the standing of that record at its end. -/

namespace Sys2Proof.Machine

/-! ## The list ahead of a walk position -/

/-- The entries from a walk position on. -/
abbrev entriesFrom (l : List Nat) (p : Nat) : List Nat := l.dropWhile fun x => decide (x ≠ p)

theorem entriesFrom_cons_self (p : Nat) (l : List Nat) : entriesFrom (p :: l) p = p :: l := by simp [entriesFrom]

theorem entriesFrom_cons_ne {x p : Nat} (h : x ≠ p) (l : List Nat) : entriesFrom (x :: l) p = entriesFrom l p := by
  simp [entriesFrom, h]

/-- What is ahead stays ahead when another entry, not the one at the position, leaves. -/
theorem mem_entriesFrom_erase {l : List Nat} {a e p : Nat} (hea : e ≠ a) (hpa : p ≠ a) (h : e ∈ entriesFrom l p) :
    e ∈ entriesFrom (l.erase a) p := by
  induction l with
  | nil => exact nomatch h
  | cons x l ih =>
    by_cases hxa : x = a
    · subst hxa
      rw [List.erase_cons_head]
      rwa [entriesFrom_cons_ne hpa.symm] at h
    · rw [List.erase_cons_tail (by simpa using hxa)]
      by_cases hxp : x = p
      · subst hxp
        rw [entriesFrom_cons_self] at h ⊢
        rcases List.mem_cons.mp h with rfl | h
        · exact List.mem_cons_self ..
        · exact List.mem_cons_of_mem _ ((List.mem_erase_of_ne hea).mpr h)
      · rw [entriesFrom_cons_ne hxp] at h ⊢
        exact ih h

/-- What is ahead of a position, but for the entry at it, is ahead of its successor. -/
theorem mem_entriesFrom_successor {l : List Nat} (hnodup : l.Nodup) {a e : Nat} (hea : e ≠ a) (h : e ∈ entriesFrom l a) :
    ∃ q, successorIn l a = some q ∧ q ≠ a ∧ e ∈ entriesFrom l q := by
  induction l with
  | nil => exact nomatch h
  | cons x l ih =>
    obtain ⟨hx, hrest⟩ := List.nodup_cons.mp hnodup
    by_cases hxa : x = a
    · subst hxa
      rw [entriesFrom_cons_self] at h
      have hel : e ∈ l := (List.mem_cons.mp h).resolve_left hea
      cases l with
      | nil => exact nomatch hel
      | cons q l =>
        have hqx : q ≠ x := fun he => hx (he ▸ List.mem_cons_self ..)
        refine ⟨q, by simp [successorIn], hqx, ?_⟩
        rwa [entriesFrom_cons_ne hqx.symm, entriesFrom_cons_self]
    · rw [entriesFrom_cons_ne hxa] at h
      obtain ⟨q, hq, hqa, he⟩ := ih hrest h
      have hxq : x ≠ q := fun heq => hx (heq ▸ successorIn_mem hq)
      exact ⟨q, by rw [successorIn, if_neg hxa, hq], hqa, by rwa [entriesFrom_cons_ne hxq]⟩

/-- What is ahead stays ahead when an entry joins at the tail. -/
theorem mem_entriesFrom_append {l : List Nat} {e p : Nat} (h : e ∈ entriesFrom l p) (a : Nat) :
    e ∈ entriesFrom (l ++ [a]) p := by
  have hne : (entriesFrom l p).isEmpty = false := by
    cases hl : entriesFrom l p with
    | nil => rw [hl] at h; exact nomatch h
    | cons => rfl
  rw [entriesFrom, List.dropWhile_append, hne]
  exact List.mem_append_left _ h

/-! ## Ancestors -/

section
variable {s t : State} {a root : Nat}

/-- What the ancestor walk finds is an ancestor. -/
theorem mem_ancestors_of_within {x : Option Nat} {n p : Nat} (h : ancestorWithin s x n a = some p) :
    p ∈ s.ancestors n a := by
  induction n generalizing a with
  | zero => exact nomatch h
  | succ n ih =>
    cases hparent : (s.asset a).parent with
    | none => simp [ancestorWithin, hparent] at h
    | some q =>
      simp only [ancestorWithin, hparent] at h
      simp only [State.ancestors, hparent]
      split at h
      · obtain rfl := Option.some.inj h
        exact List.mem_cons_self ..
      · exact List.mem_cons_of_mem _ (ih h)

/-- Ancestors in sound tables lie below their asset. -/
theorem State.TablesSound.ancestors_lt (h : s.TablesSound) {n p : Nat} (ha : a < s.tables.assetCount)
    (hp : p ∈ s.ancestors n a) : p < a := by
  induction n generalizing a with
  | zero => exact nomatch hp
  | succ n ih =>
    cases hparent : (s.asset a).parent with
    | none => simp [State.ancestors, hparent] at hp
    | some q =>
      have hqa : q < a := h.parents a ha q hparent
      simp only [State.ancestors, hparent] at hp
      rcases List.mem_cons.mp hp with rfl | hp
      · exact hqa
      · exact (ih (hqa.trans ha) hp).trans hqa

/-- The ancestors are read from the parents alone. -/
theorem State.ancestors_congr (h : ∀ b, (t.asset b).parent = (s.asset b).parent) (n a : Nat) :
    t.ancestors n a = s.ancestors n a := by
  induction n generalizing a with
  | zero => rfl
  | succ n ih => simp only [State.ancestors, h, ih]

/-- The standing of an asset is read from its class's masking and its record's condition. -/
theorem State.maskingFaulted_congr (hmasking : (t.classOf a).masking = (s.classOf a).masking)
    (hcondition : (t.record a).condition = (s.record a).condition) : t.maskingFaulted a = s.maskingFaulted a := by
  simp only [State.maskingFaulted, FaultRecord.faulted, hmasking, hcondition]

/-- A record in none of the four conditions of R3 is not masking-faulted. -/
theorem State.not_maskingFaulted (hfaulted : (s.record a).faulted = false) (hout : (s.record a).condition ≠ .outOfService) :
    s.maskingFaulted a = false := by simp [State.maskingFaulted, hfaulted, hout]

end

/-! ## Standing but for one record -/

/-- Every cause stands, and the running RELEASE has every dependent of its root ahead of it, but that the standing of the asset
`x`, if one is given, is open: its place on the list, its dependents and the walk's way to it. -/
structure State.StandsBut (s : State) (x : Option Nat) : Prop where
  canonical : Table.wf clearRecord s.correlator.records
  once : s.board.Nodup
  sound : s.TablesSound
  links : ∀ e root, (s.record e).cause = some root → root ∈ s.ancestors 4 e
  beyond : ∀ b, s.tables.assetCount ≤ b → s.record b = clearRecord
  caused : ∀ e, x ≠ some e → (s.record e).cause ≠ none → e ∈ s.board
  roots : ∀ b, x ≠ some b → 0 < (s.record b).dependents → s.maskingFaulted b = true ∨ .release b ∈ s.walks
  released : ∀ b, x ≠ some b → .release b ∈ s.walks → s.maskingFaulted b = false
  others : ∀ j ∈ s.sweep.jobs.tail, j.state = .waiting
  ahead : ∀ j ∈ s.sweep.jobs.head?, j.state = .running → ∀ root, j.walk = .release root → ∀ e, x ≠ some e →
    (s.record e).cause = some root → ∃ p, j.position = some p ∧ e ∈ entriesFrom s.board p

section
variable {s t : State} {x : Option Nat} {a : Nat}

/-- The standing is read from the records, the list, the jobs and the tables alone. -/
theorem State.StandsBut.congr (h : s.StandsBut x) (hrecords : t.correlator.records = s.correlator.records)
    (hboard : t.board = s.board) (hjobs : t.sweep.jobs = s.sweep.jobs) (htables : t.tables = s.tables) :
    t.StandsBut x := by
  obtain ⟨hcanonical, honce, hsound, hlinks, hbeyond, hcaused, hroots, hreleased, hothers, hahead⟩ := h
  have hrecord := State.record_congr hrecords
  have hmasking : ∀ b, t.maskingFaulted b = s.maskingFaulted b := fun b =>
    State.maskingFaulted_congr (by rw [State.classOf_congr htables]) (by rw [hrecord])
  have hancestors := State.ancestors_congr (s := s) (t := t) (fun b => by rw [State.asset_congr htables]) 4
  have hwalks : t.walks = s.walks := by simp only [State.walks, hjobs]
  constructor
  case sound => exact hsound.congr htables
  all_goals simpa only [hrecord, hrecords, hboard, hjobs, htables, hmasking, hancestors, hwalks]

/-- What holds of every record holds of all but one. -/
theorem State.StandsBut.but (h : s.StandsBut none) (a : Nat) : s.StandsBut (some a) :=
  { h with
    caused := fun e _ => h.caused e nofun
    roots := fun b _ => h.roots b nofun
    released := fun b _ => h.released b nofun
    ahead := fun j hj hrun root hw e _ => h.ahead j hj hrun root hw e nofun }

/-- The open record is settled: on the list if it has a cause, its dependents have their root, and the running RELEASE is not of
its cause. -/
theorem State.StandsBut.settled (h : s.StandsBut (some a)) (hcaused : (s.record a).cause ≠ none → a ∈ s.board)
    (hroots : 0 < (s.record a).dependents → s.maskingFaulted a = true ∨ .release a ∈ s.walks)
    (hreleased : .release a ∈ s.walks → s.maskingFaulted a = false)
    (hahead : ∀ root, (s.record a).cause = some root → ∀ j ∈ s.sweep.jobs.head?, j.walk ≠ .release root) :
    s.StandsBut none := by
  have hother : ∀ {b : Nat}, b ≠ a → some a ≠ some b := fun hb he => hb (Option.some.inj he).symm
  refine { h with caused := fun e _ => ?_, roots := fun b _ => ?_, released := fun b _ => ?_, ahead := ?_ }
  · by_cases he : e = a
    · exact he ▸ hcaused
    · exact h.caused e (hother he)
  · by_cases hb : b = a
    · exact hb ▸ hroots
    · exact h.roots b (hother hb)
  · by_cases hb : b = a
    · exact hb ▸ hreleased
    · exact h.released b (hother hb)
  · intro j hj hrun root hw e _ hcause
    by_cases he : e = a
    · subst he
      exact absurd hw (hahead root hcause j hj)
    · exact h.ahead j hj hrun root hw e (hother he) hcause

/-- The open record is settled with no cause. -/
theorem State.StandsBut.settledFreed (h : s.StandsBut (some a)) (hcause : (s.record a).cause = none)
    (hroots : 0 < (s.record a).dependents → s.maskingFaulted a = true ∨ .release a ∈ s.walks)
    (hreleased : .release a ∈ s.walks → s.maskingFaulted a = false) : s.StandsBut none :=
  h.settled (fun hne => absurd hcause hne) hroots hreleased fun _ hroot => nomatch hcause.symm.trans hroot

/-- The open record is settled where its standing, its dependents and the jobs are as they were. -/
theorem State.StandsBut.settledAs (h : t.StandsBut (some a)) (hbefore : s.StandsBut none) (hwalks : t.walks = s.walks)
    (hmasking : t.maskingFaulted a = s.maskingFaulted a)
    (hdependents : (t.record a).dependents = (s.record a).dependents)
    (hcaused : (t.record a).cause ≠ none → a ∈ t.board)
    (hahead : ∀ root, (t.record a).cause = some root → ∀ j ∈ t.sweep.jobs.head?, j.walk ≠ .release root) :
    t.StandsBut none := by
  refine h.settled hcaused ?_ ?_ hahead
  · rw [hdependents, hmasking, hwalks]
    exact hbefore.roots a nofun
  · rw [hmasking, hwalks]
    exact hbefore.released a nofun

/-- A record that is not clear is that of an asset (R1). -/
theorem State.StandsBut.lt_assetCount (h : s.StandsBut x) (hne : s.record a ≠ clearRecord) : a < s.tables.assetCount :=
  Nat.lt_of_not_le fun hle => hne (h.beyond a hle)

/-! ### Records -/

/-- The open record changed, but for its cause. -/
theorem State.StandsBut.modRecord (h : s.StandsBut (some a)) (ha : a < s.tables.assetCount)
    {f : FaultRecord → FaultRecord} (hcause : (f (s.record a)).cause = (s.record a).cause) :
    (s.modRecord a f).StandsBut (some a) := by
  have hread := State.record_modRecord h.canonical a f
  have hne : ∀ {b : Nat}, some a ≠ some b → (s.modRecord a f).record b = s.record b := fun hb =>
    (hread _).trans (if_neg fun he => hb (congrArg some he.symm))
  have hcauses : ∀ b, ((s.modRecord a f).record b).cause = (s.record b).cause := fun b => by
    rw [hread]
    split
    · next hb => rw [hcause, hb]
    · rfl
  have hmasking : ∀ {b : Nat}, some a ≠ some b → (s.modRecord a f).maskingFaulted b = s.maskingFaulted b := fun hb =>
    State.maskingFaulted_congr rfl (by rw [hne hb])
  refine ⟨tableSet_wf h.canonical .., h.once, h.sound.congr rfl, fun e root => ?_, fun b hb => ?_, fun e he => ?_,
    fun b hb => ?_, fun b hb => ?_, h.others, fun j hj hrun root hw e he => ?_⟩
  · rw [hcauses]
    exact h.links e root
  · have hba : b ≠ a := fun he => Nat.not_le.mpr ha (he ▸ hb)
    rw [hread, if_neg hba]
    exact h.beyond b hb
  · rw [hcauses]
    exact h.caused e he
  · rw [hne hb, hmasking hb]
    exact h.roots b hb
  · rw [hmasking hb]
    exact h.released b hb
  · rw [hcauses]
    exact h.ahead j hj hrun root hw e he

/-- A record changed in none of its cause, its dependents and its standing. -/
theorem State.StandsBut.modRecord_plain (h : s.StandsBut none) (ha : a < s.tables.assetCount)
    {f : FaultRecord → FaultRecord} (hcause : (f (s.record a)).cause = (s.record a).cause)
    (hdependents : (f (s.record a)).dependents = (s.record a).dependents)
    (hstanding : (f (s.record a)).faulted = (s.record a).faulted)
    (hout : (f (s.record a)).condition = .outOfService ↔ (s.record a).condition = .outOfService) :
    (s.modRecord a f).StandsBut none := by
  have hread := State.record_modRecord h.canonical a f
  have hcauses : ∀ b, ((s.modRecord a f).record b).cause = (s.record b).cause := fun b => by
    rw [hread]
    split
    · next hb => rw [hcause, hb]
    · rfl
  have hself : (s.modRecord a f).record a = f (s.record a) := (hread a).trans (if_pos rfl)
  have hmasking : (s.modRecord a f).maskingFaulted a = s.maskingFaulted a := by
    have hclass : (s.modRecord a f).classOf a = s.classOf a := rfl
    simp only [State.maskingFaulted, hself, hclass, hstanding, hout]
  have hopen := (h.but a).modRecord ha hcause
  refine { hopen with caused := fun e _ => ?_, roots := fun b _ => ?_, released := fun b _ => ?_, ahead := ?_ }
  · rw [hcauses]
    exact h.caused e nofun
  · by_cases hb : b = a
    · subst hb
      rw [hself, hdependents, hmasking]
      exact h.roots b nofun
    · exact hopen.roots b fun he => hb (Option.some.inj he).symm
  · by_cases hb : b = a
    · subst hb
      rw [hmasking]
      exact h.released b nofun
    · exact hopen.released b fun he => hb (Option.some.inj he).symm
  · intro j hj hrun root hw e _
    rw [hcauses]
    exact h.ahead j hj hrun root hw e nofun

/-- The open record takes a cause that is a masking-faulted ancestor (R45). -/
theorem State.StandsBut.attribute (h : s.StandsBut (some a)) (ha : a < s.tables.assetCount) {root : Nat}
    (hroot : root ∈ s.ancestors 4 a) (hmasking : s.maskingFaulted root = true) :
    (s.attribute a root).StandsBut (some a) := by
  have hlt : root < a := h.sound.ancestors_lt ha hroot
  have hread := State.record_attribute (s := s) (a := a) (root := root) h.canonical
  have hsame : ∀ b, (s.attribute a root).maskingFaulted b = s.maskingFaulted b := fun b =>
    State.maskingFaulted_congr rfl (by rw [hread])
  have hother : ∀ {b : Nat}, some a ≠ some b → b ≠ a := fun hb he => hb (congrArg some he.symm)
  refine ⟨tableSet_wf (tableSet_wf h.canonical ..) .., h.once, h.sound.congr rfl, fun e r hr => ?_, fun b hb => ?_,
    fun e he hcause => ?_, fun b hb hdependents => ?_, fun b hb => ?_, h.others, fun j hj hrun r hw e he hcause => ?_⟩
  · rw [hread] at hr
    by_cases hea : e = a
    · rw [hea, ← Option.some.inj ((if_pos hea).symm.trans hr)]
      exact hroot
    · exact h.links e r ((if_neg hea).symm.trans hr)
  · have hba : b ≠ a := fun he => Nat.not_le.mpr ha (he ▸ hb)
    have hbr : b ≠ root := fun he => Nat.not_le.mpr (hlt.trans ha) (he ▸ hb)
    rw [hread, if_neg hba, if_neg hbr]
    exact h.beyond b hb
  · rw [hread] at hcause
    simp only [hother he, if_false] at hcause
    exact h.caused e he hcause
  · rw [hsame]
    by_cases hbr : b = root
    · exact .inl (hbr ▸ hmasking)
    · rw [hread] at hdependents
      simp only [hbr, if_false, Nat.add_zero] at hdependents
      exact h.roots b hb hdependents
  · rw [hsame]
    exact h.released b hb
  · rw [hread] at hcause
    simp only [hother he, if_false] at hcause
    exact h.ahead j hj hrun r hw e he hcause

/-- The open record loses its cause, if it has one (R45). -/
theorem State.StandsBut.unattribute (h : s.StandsBut (some a)) : (s.unattribute a).StandsBut (some a) := by
  cases hnow : (s.record a).cause with
  | none =>
    have hkept : s.unattribute a = s := by simp [State.unattribute, hnow]
    exact hkept.symm ▸ h
  | some root =>
    have hread := State.record_unattribute h.canonical hnow
    have htables : (s.unattribute a).tables = s.tables := by simp
    have hboard : (s.unattribute a).board = s.board := by simp
    have hjobs : (s.unattribute a).sweep = s.sweep := by simp
    have hwalks : (s.unattribute a).walks = s.walks := by simp only [State.walks, hjobs]
    have hsame : ∀ b, (s.unattribute a).maskingFaulted b = s.maskingFaulted b := fun b =>
      State.maskingFaulted_congr (by rw [State.classOf_congr htables]) (by rw [hread])
    have hancestors := State.ancestors_congr (s := s) (t := s.unattribute a)
      (fun b => by rw [State.asset_congr htables]) 4
    have hcauses : ∀ {e r : Nat}, ((s.unattribute a).record e).cause = some r → (s.record e).cause = some r := by
      intro e r hr
      rw [hread] at hr
      by_cases hea : e = a
      · exact nomatch (if_pos hea).symm.trans hr
      · exact (if_neg hea).symm.trans hr
    refine ⟨?_, hboard ▸ h.once, h.sound.congr htables, fun e r hr => ?_, fun b hb => ?_, fun e he hcause => ?_,
      fun b hb hdependents => ?_, fun b hb => ?_, hjobs ▸ h.others, fun j hj hrun r hw e he hcause => ?_⟩
    · rw [State.unattribute_some hnow]
      exact tableSet_wf (tableSet_wf h.canonical ..) ..
    · rw [hancestors]
      exact h.links e r (hcauses hr)
    · have hclear := h.beyond b (htables ▸ hb)
      rw [hread, hclear]
      by_cases hba : b = a
      · rw [hba] at hclear
        rw [hclear] at hnow
        exact nomatch hnow
      · simp only [hba, if_false]
        simp [clearRecord]
    · obtain ⟨r, hr⟩ := Option.ne_none_iff_exists'.mp hcause
      rw [hboard]
      exact h.caused e he (by rw [hcauses hr]; exact nofun)
    · rw [hsame, hwalks]
      refine h.roots b hb ?_
      rw [hread] at hdependents
      exact Nat.lt_of_lt_of_le hdependents (Nat.sub_le ..)
    · rw [hsame, hwalks]
      exact h.released b hb
    · rw [hboard]
      rw [hjobs] at hj
      exact h.ahead j hj hrun r hw e he (hcauses hcause)

/-! ### The list -/

/-- A record joins the list at the tail (R71). -/
theorem State.StandsBut.join (h : s.StandsBut (some a)) (ha : a < s.tables.assetCount) :
    (s.join a).StandsBut (some a) := by
  by_cases hboard : a ∈ s.board
  · rwa [State.join_listed hboard]
  · have hstamped := h.modRecord ha (f := fun r => { r with joinedAt := some s.now }) rfl
    rw [State.join, if_neg hboard]
    refine ⟨hstamped.canonical, ?_, h.sound.congr rfl, hstamped.links, hstamped.beyond, fun e he hcause => ?_,
      hstamped.roots, hstamped.released, hstamped.others, fun j hj hrun root hw e he hcause => ?_⟩
    · exact List.nodup_append.mpr ⟨h.once, by simp, fun b hb c hc => by rintro rfl; simp_all⟩
    · exact List.mem_append_left _ (hstamped.caused e he hcause)
    · obtain ⟨p, hp, hmem⟩ := hstamped.ahead j hj hrun root hw e he hcause
      exact ⟨p, hp, mem_entriesFrom_append hmem a⟩

/-- The walks stay when an entry leaves the list. -/
theorem State.leave_walks (s : State) (a : Nat) : (s.leave a).walks = s.walks := by
  simp only [State.leave, State.walks]
  split
  · simp [SweepJob.stepPast_eq]
  · rfl

/-- The open record leaves the list, and a walk standing on it goes to its successor (R56, R73). -/
theorem State.StandsBut.leave (h : s.StandsBut (some a)) : (s.leave a).StandsBut (some a) := by
  by_cases hboard : a ∈ s.board
  · have hwalks := s.leave_walks a
    have hother : ∀ {e : Nat}, some a ≠ some e → e ≠ a := fun he heq => he (congrArg some heq.symm)
    rw [State.leave, if_pos hboard] at hwalks ⊢
    refine ⟨h.canonical, h.once.erase a, h.sound.congr rfl, h.links, h.beyond, fun e he hcause => ?_, fun b hb => ?_,
      fun b hb => ?_, ?_, ?_⟩
    · exact (List.mem_erase_of_ne (hother he)).mpr (h.caused e he hcause)
    · rw [hwalks]
      exact h.roots b hb
    · rw [hwalks]
      exact h.released b hb
    · simp only [← List.map_tail, List.forall_mem_map, SweepJob.stepPast_eq]
      exact h.others
    · simp only [List.head?_map, Option.mem_map, SweepJob.stepPast_eq]
      rintro _ ⟨j, hj, rfl⟩ hrun root hw e he hcause
      obtain ⟨p, hp, hmem⟩ := h.ahead j hj hrun root hw e he hcause
      by_cases hpa : p = a
      · subst hpa
        obtain ⟨q, hq, hqp, hahead⟩ := mem_entriesFrom_successor h.once (hother he) hmem
        exact ⟨q, (if_pos hp).trans hq, mem_entriesFrom_erase (hother he) hqp hahead⟩
      · exact ⟨p, (if_neg (by simpa [hp] using hpa)).trans hp, mem_entriesFrom_erase (hother he) hpa hmem⟩
  · rwa [State.leave, if_neg hboard]

theorem State.StandsBut.leaveUnlessListed (h : s.StandsBut (some a)) : (s.leaveUnlessListed a).StandsBut (some a) := by
  simp only [State.leaveUnlessListed]
  split
  · exact h
  · exact h.leave

/-! ### The jobs -/

/-- Other jobs queued: the first running is the one that ran, and the RELEASE jobs are of the roots that need them. -/
theorem State.StandsBut.requeued (h : s.StandsBut x) {js : List SweepJob}
    (hhead : ∀ j ∈ js.head?, j.state = .running → ∀ root, j.walk = .release root →
      ∃ i ∈ s.sweep.jobs.head?, i.state = .running ∧ i.walk = j.walk ∧ i.position = j.position)
    (hothers : ∀ j ∈ js.tail, j.state = .waiting)
    (hroots : ∀ b, x ≠ some b → 0 < (s.record b).dependents → .release b ∈ s.walks → s.maskingFaulted b = false →
      .release b ∈ js.map SweepJob.walk)
    (hreleased : ∀ b, x ≠ some b → .release b ∈ js.map SweepJob.walk → s.maskingFaulted b = false) :
    { s with sweep.jobs := js }.StandsBut x := by
  refine ⟨h.canonical, h.once, h.sound.congr rfl, h.links, h.beyond, h.caused, fun b hb hdependents => ?_, hreleased,
    hothers, fun j hj hrun root hw => ?_⟩
  swap
  · obtain ⟨i, hi, hirun, hiwalk, hiposition⟩ := hhead j hj hrun root hw
    rw [← hiposition]
    exact h.ahead i hi hirun root (hiwalk.trans hw)
  rcases h.roots b hb hdependents with hmasking | hwalk
  · exact .inl hmasking
  · exact .inr (hroots b hb hdependents hwalk (h.released b hb hwalk))

/-- The first job starts at the head of the list, with every entry ahead of it (R53). -/
theorem State.StandsBut.started (h : s.StandsBut x) : s.startFirst.StandsBut x := by
  cases hjobs : s.sweep.jobs with
  | nil =>
    have hkept : s.startFirst = s := by simp [State.startFirst, hjobs]
    exact hkept.symm ▸ h
  | cons j rest =>
    by_cases hw : j.state = .waiting
    · have hstart : s.startFirst =
          { s with sweep.jobs := { j with state := .running, position := s.board.head?, tally := 0 } :: rest } := by
        simp [State.startFirst, hjobs, hw]
      have hothers := h.others
      rw [hjobs] at hothers
      have hwalks : s.startFirst.walks = s.walks := s.startFirst_walks
      rw [hstart] at hwalks ⊢
      refine ⟨h.canonical, h.once, h.sound.congr rfl, h.links, h.beyond, h.caused, fun b hb => ?_, fun b hb => ?_, hothers,
        fun i hi _ root _ e he hcause => ?_⟩
      · rw [hwalks]
        exact h.roots b hb
      · rw [hwalks]
        exact h.released b hb
      · obtain rfl : { j with state := .running, position := s.board.head?, tally := 0 } = i := by simpa using hi
        have hmem := h.caused e he fun hnone => nomatch hnone.symm.trans hcause
        show ∃ p, s.board.head? = some p ∧ e ∈ entriesFrom s.board p
        cases hboard : s.board with
        | nil => rw [hboard] at hmem; exact nomatch hmem
        | cons p l => exact ⟨p, rfl, by rwa [entriesFrom_cons_self, ← hboard]⟩
    · have hkept : s.startFirst = s := by simp [State.startFirst, hjobs, hw]
      exact hkept.symm ▸ h

/-- A job leaves the queue: not a RELEASE of a root that still needs it. -/
theorem State.StandsBut.removeJob (h : s.StandsBut x) {w : Walk}
    (hw : ∀ b, w = .release b → x ≠ some b → 0 < (s.record b).dependents → s.maskingFaulted b = true) :
    (s.removeJob w).StandsBut x := by
  have hsub : (s.sweep.jobs.filter fun j => decide (j.walk ≠ w)).Sublist s.sweep.jobs := List.filter_sublist
  have hwalks : (s.sweep.jobs.filter fun j => decide (j.walk ≠ w)).map SweepJob.walk =
      s.walks.filter fun v => decide (v ≠ w) := by
    simp [State.walks, List.filter_map, Function.comp_def]
  refine State.StandsBut.started (h.requeued (fun j hj hrun _ _ => ?_) (fun j hj => ?_) (fun b hb hdependents hwalk hm => ?_)
    fun b hb hwalk => ?_)
  · have hmem := hsub.subset (List.mem_of_head? hj)
    cases hjobs : s.sweep.jobs with
    | nil => rw [hjobs] at hmem; exact nomatch hmem
    | cons i rest =>
      rw [hjobs] at hmem
      rcases List.mem_cons.mp hmem with rfl | hrest
      · exact ⟨j, rfl, hrun, rfl, rfl⟩
      · have hwaiting := h.others j (by rw [hjobs]; exact hrest)
        exact nomatch hrun.symm.trans hwaiting
  · exact h.others j (hsub.tail.subset hj)
  · rw [hwalks, List.mem_filter]
    refine ⟨hwalk, decide_eq_true fun he => ?_⟩
    exact nomatch hm.symm.trans (hw b he.symm hb hdependents)
  · rw [hwalks] at hwalk
    exact h.released b hb (List.mem_filter.mp hwalk).1

/-- A job joins the queue: a RELEASE of a root that is not masking-faulted. -/
theorem State.StandsBut.joinJob (h : s.StandsBut x) {w : Walk}
    (hw : ∀ b, w = .release b → x ≠ some b → s.maskingFaulted b = false) : (s.joinJob w).StandsBut x := by
  refine State.StandsBut.started (h.requeued (fun j hj hrun _ _ => ?_) (fun j hj => ?_) (fun b _ _ hwalk _ => ?_)
    fun b hb hwalk => ?_)
  · cases hjobs : s.sweep.jobs with
    | nil =>
      rw [hjobs] at hj
      obtain rfl : waitingJob w = j := by simpa using hj
      exact nomatch hrun
    | cons i rest =>
      rw [hjobs] at hj
      exact ⟨j, hj, hrun, rfl, rfl⟩
  · cases hjobs : s.sweep.jobs with
    | nil => simp [hjobs] at hj
    | cons i rest =>
      simp only [hjobs, List.cons_append, List.tail_cons, List.mem_append, List.mem_singleton] at hj
      rcases hj with hj | rfl
      · exact h.others j (by rw [hjobs]; exact hj)
      · rfl
  · rw [List.map_append]
    exact List.mem_append_left _ hwalk
  · rw [List.map_append] at hwalk
    rcases List.mem_append.mp hwalk with hwalk | hwalk
    · exact h.released b hb hwalk
    · exact hw b (List.mem_singleton.mp hwalk).symm hb

theorem State.StandsBut.endAdopt (h : s.StandsBut x) (root : Nat) : (s.endAdopt root).StandsBut x := by
  have hremoved : (s.removeJob (.adopt root)).StandsBut x := h.removeJob nofun
  simp only [State.endAdopt]
  split
  · split
    · exact hremoved.congr (by simp) (by simp) (by simp) (by simp)
    · exact hremoved
  · exact h

theorem State.StandsBut.cancelReleaseIfMasking (h : s.StandsBut x) (b : Nat) : (s.cancelReleaseIfMasking b).StandsBut x := by
  simp only [State.cancelReleaseIfMasking]
  split
  · next hmasking =>
    simp only [State.cancelRelease]
    split
    · exact h.removeJob fun c hc _ _ => Walk.release.inj hc ▸ hmasking
    · exact h
  · exact h

theorem State.StandsBut.requestAdopt (h : s.StandsBut x) (root : Nat) : (s.requestAdopt root).StandsBut x := by
  simp only [State.requestAdopt]
  split
  · exact h
  · split
    · exact h.congr rfl rfl rfl rfl
    · exact h.joinJob nofun

/-- A RELEASE of the open record is queued (R50). -/
theorem State.StandsBut.queueRelease (h : s.StandsBut (some a)) : (s.queueRelease a).StandsBut (some a) := by
  have hown : ∀ {t : State} (b : Nat), Walk.release a = .release b → some a ≠ some b → t.maskingFaulted b = false :=
    fun b hb hne => absurd (congrArg some (Walk.release.inj hb)) hne
  simp only [State.queueRelease]
  split
  · exact (h.endAdopt a).joinJob hown
  · split
    · exact h
    · exact h.joinJob hown

/-- A merge leaves a RELEASE as it is, and makes none (R52). -/
theorem SweepJob.mergeAck_release {j : SweepJob} {zone head : Option Nat} {b : Nat}
    (h : (j.mergeAck zone head).walk = .release b) : j.mergeAck zone head = j := by
  rcases j.mergeAck_cases zone head with hm | ⟨_, _, -, hm⟩
  · exact hm
  · rw [hm] at h
    exact nomatch h

/-- An ACK merged or queued (R52). -/
theorem State.StandsBut.queueAck (h : s.StandsBut x) (zone : Option Nat) : (s.queueAck zone).StandsBut x := by
  simp only [State.queueAck]
  split
  · refine h.requeued (fun j hj hrun root hw => ?_) ?_ (fun b _ _ hwalk _ => ?_) fun b hb hwalk => ?_
    · simp only [List.head?_map, Option.mem_map] at hj
      obtain ⟨i, hi, rfl⟩ := hj
      rw [SweepJob.mergeAck_release hw] at hrun ⊢
      exact ⟨i, hi, hrun, rfl, rfl⟩
    · simp only [← List.map_tail, List.forall_mem_map]
      exact fun j hj => (j.mergeAck_keeps zone _).1.trans (h.others j hj)
    · obtain ⟨j, hj, hw⟩ := List.mem_map.mp hwalk
      refine List.mem_map.mpr ⟨_, List.mem_map_of_mem hj, ?_⟩
      simp only [SweepJob.mergeAck, hw]
    · obtain ⟨_, hmerged, hw⟩ := List.mem_map.mp hwalk
      obtain ⟨j, hj, rfl⟩ := List.mem_map.mp hmerged
      rw [SweepJob.mergeAck_release hw] at hw
      exact h.released b hb (hw ▸ List.mem_map_of_mem hj)
  · exact h.joinJob nofun

/-- The tally of the running job rises (R59). -/
theorem State.StandsBut.raiseTally (h : s.StandsBut x) : s.raiseTally.StandsBut x := by
  cases hjobs : s.sweep.jobs with
  | nil =>
    have hkept : s.raiseTally = s := by simp [State.raiseTally, hjobs]
    exact hkept.symm ▸ h
  | cons j rest =>
    rw [State.raiseTally_cons hjobs]
    have hwalks : ({ j with tally := j.tally + 1 } :: rest).map SweepJob.walk = s.walks := by simp [State.walks, hjobs]
    refine h.requeued (fun i hi hrun _ _ => ?_) (fun i hi => ?_) (fun b _ _ hwalk _ => ?_) fun b hb hwalk => ?_
    · obtain rfl : { j with tally := j.tally + 1 } = i := by simpa using hi
      exact ⟨j, by rw [hjobs]; rfl, hrun, rfl, rfl⟩
    · exact h.others i (by rw [hjobs]; exact hi)
    · rwa [hwalks]
    · rw [hwalks] at hwalk
      exact h.released b hb hwalk

/-- The walk moves past the entry it stands on, which is open from then on (R55). -/
theorem State.StandsBut.moveWalk (h : s.StandsBut none) {j : SweepJob} {rest : List SweepJob}
    (hjobs : s.sweep.jobs = j :: rest) (hposition : j.position = some a) :
    (s.moveWalk (s.successor a)).StandsBut (some a) := by
  have hwalks : (s.moveWalk (s.successor a)).walks = s.walks := by simp [State.walks, State.moveWalk, hjobs]
  have hothers := h.others
  have hopen := h.but a
  rw [State.moveWalk_cons hjobs] at hwalks ⊢
  rw [hjobs] at hothers
  refine ⟨h.canonical, h.once, h.sound.congr rfl, h.links, h.beyond, hopen.caused, fun b hb => ?_, fun b hb => ?_, hothers,
    fun i hi hrun root hw e he hcause => ?_⟩
  · rw [hwalks]
    exact hopen.roots b hb
  · rw [hwalks]
    exact hopen.released b hb
  · obtain rfl : { j with position := s.successor a } = i := by simpa using hi
    obtain ⟨p, hp, hmem⟩ := h.ahead j (by rw [hjobs]; rfl) hrun root hw e nofun hcause
    obtain rfl : a = p := Option.some.inj (hposition.symm.trans hp)
    obtain ⟨q, hq, -, hnext⟩ := mem_entriesFrom_successor h.once (fun heq => he (congrArg some heq.symm)) hmem
    exact ⟨q, hq, hnext⟩

end

end Sys2Proof.Machine

/-! The roots of the causes over the operations of the Correlator, the Sweep Engine and the agent, and over every step. -/

namespace Sys2Proof.Machine

section
variable {s t : State} {a : Nat}

/-! ## Qualification -/

/-- The walks are read from the jobs alone. -/
theorem State.walks_congr (h : t.sweep = s.sweep) : t.walks = s.walks := by simp only [State.walks, h]

/-- The running job is not a RELEASE that is not queued. -/
theorem State.head_walk_ne {w : Walk} (h : w ∉ s.walks) : ∀ j ∈ s.sweep.jobs.head?, j.walk ≠ w :=
  fun _ hj hw => h (hw ▸ List.mem_map_of_mem (List.mem_of_head? hj))

/-- The open record, with no cause, is settled by the cancellation of its RELEASE where it is masking-faulted (R66). -/
theorem State.StandsBut.cancelled (h : s.StandsBut (some a)) (hcause : (s.record a).cause = none)
    (hroots : 0 < (s.record a).dependents → s.maskingFaulted a = false → .release a ∈ s.walks) :
    (s.cancelReleaseIfMasking a).StandsBut none := by
  have hrecord : (s.cancelReleaseIfMasking a).record a = s.record a := State.record_congr (by simp) a
  have hmasking : (s.cancelReleaseIfMasking a).maskingFaulted a = s.maskingFaulted a :=
    State.maskingFaulted_congr (by rw [State.classOf_congr (t := s.cancelReleaseIfMasking a) (s := s) (by simp)])
      (by rw [hrecord])
  refine (h.cancelReleaseIfMasking a).settledFreed (by rw [hrecord, hcause]) ?_ ?_
  · rw [hrecord, hmasking]
    intro hdependents
    cases hm : s.maskingFaulted a with
    | true => exact .inl rfl
    | false =>
      have hkept : s.cancelReleaseIfMasking a = s := if_neg (by rw [hm]; exact nofun)
      rw [hkept]
      exact .inr (hroots hdependents hm)
  · rw [hmasking]
    intro hwalk
    by_contra hm
    exact State.not_release_cancelReleaseIfMasking (by simpa using hm) hwalk

/-- A record with no cause leaves the list unless it is faulted or HELD (R73). -/
theorem State.StandsBut.leaveFreed (h : s.StandsBut none) (hcause : (s.record a).cause = none) :
    (s.leaveUnlessListed a).StandsBut none := by
  have hrecord : (s.leaveUnlessListed a).record a = s.record a := State.record_congr (by simp) a
  have hwalks : (s.leaveUnlessListed a).walks = s.walks := by
    simp only [State.leaveUnlessListed]
    split
    · rfl
    · exact s.leave_walks a
  refine (h.but a).leaveUnlessListed.settledAs h hwalks (State.maskingFaulted_congr ?_ ?_) (by rw [hrecord]) ?_ ?_
  · rw [State.classOf_congr (t := s.leaveUnlessListed a) (s := s) (by simp)]
  · rw [hrecord]
  · rw [hrecord]
    exact fun hne => absurd hcause hne
  · rw [hrecord]
    exact fun r hr => nomatch hcause.symm.trans hr

/-- A record that stands outside the four conditions of R3 enters a fault with no cause (R13, R66). -/
theorem State.StandsBut.enterFault (h : s.StandsBut none) (ha : a < s.tables.assetCount)
    (hfresh : (s.record a).faulted = false) (hout : (s.record a).condition ≠ .outOfService)
    (hcause : (s.record a).cause = none) (c : Condition) (v : Severity) : (s.enterFault a c v).StandsBut none := by
  have hentered := (h.but a).modRecord ha
    (f := fun r => { r with condition := c, run := 0, severity := v, qualifiedAt := some s.now }) rfl
  have hread := State.record_setRecord_self h.canonical a
    { s.record a with condition := c, run := 0, severity := v, qualifiedAt := some s.now }
  refine hentered.cancelled ((congrArg FaultRecord.cause hread).trans hcause) fun hdependents _ => ?_
  have hbefore : 0 < (s.record a).dependents := (congrArg FaultRecord.dependents hread).symm ▸ hdependents
  exact (h.roots a nofun hbefore).resolve_left (by rw [State.not_maskingFaulted hfresh hout]; exact nofun)

/-- A root that the ancestor walk finds is masking-faulted, and has no RELEASE queued. -/
theorem State.StandsBut.ancestor (h : s.StandsBut none) {x : Option Nat} {root : Nat}
    (hroot : ancestorWithin s x 4 a = some root) :
    root ∈ s.ancestors 4 a ∧ s.maskingFaulted root = true ∧ .release root ∉ s.walks := by
  obtain ⟨hmasking, -⟩ := ancestorWithin_sound hroot
  refine ⟨mem_ancestors_of_within hroot, hmasking, fun hwalk => ?_⟩
  exact nomatch hmasking.symm.trans (h.released root nofun hwalk)

/-- A record takes the suppressed outcome under the root that the walk finds (R15). -/
theorem State.StandsBut.suppress (h : s.StandsBut none) (ha : a < s.tables.assetCount) {root : Nat}
    (hroot : s.ancestor a = some root) : (s.suppress a root).StandsBut none := by
  obtain ⟨hmem, hmasking, hfree⟩ := h.ancestor hroot
  have hne : a ≠ root := (h.sound.ancestors_lt ha hmem).ne'
  have hattributed := (h.but a).attribute ha hmem hmasking
  have hread := State.record_attribute (s := s) (a := a) (root := root) h.canonical a
  obtain ⟨time, hstamp⟩ := State.record_join hattributed.canonical a a
  have hsweep : (s.suppress a root).sweep = s.sweep := by simp [State.suppress]
  rw [hread] at hstamp
  refine (hattributed.join ha).settledAs h (State.walks_congr hsweep) (State.maskingFaulted_congr ?_ ?_) ?_ (fun _ => ?_)
    fun r hr => ?_
  · rw [State.classOf_congr (t := (s.attribute a root).join a) (s := s) (by simp)]
  · rw [hstamp]
  · rw [hstamp]
    simp [hne]
  · by_cases hboard : a ∈ (s.attribute a root).board
    · rwa [State.join_listed hboard]
    · simp [State.join_board hboard]
  · rw [hstamp] at hr
    obtain rfl : root = r := Option.some.inj ((if_pos rfl).symm.trans hr)
    exact State.head_walk_ne (by rw [State.walks_congr (s := s) (t := (s.attribute a root).join a) hsweep]; exact hfree)

/-- A record joins the list with no cause (R71). -/
theorem State.StandsBut.joinAlone (h : s.StandsBut none) (ha : a < s.tables.assetCount)
    (hcause : (s.record a).cause = none) : (s.join a).StandsBut none := by
  obtain ⟨time, hstamp⟩ := State.record_join h.canonical a a
  refine ((h.but a).join ha).settledAs h (State.walks_congr (by simp)) (State.maskingFaulted_congr ?_ ?_) ?_ ?_ ?_
  · rw [State.classOf_congr (t := s.join a) (s := s) (by simp)]
  · rw [hstamp]
  · rw [hstamp]
  · rw [hstamp]
    exact fun hne => absurd hcause hne
  · rw [hstamp]
    exact fun r hr => nomatch hcause.symm.trans hr

/-- A record takes the independent outcome (R16). -/
theorem State.StandsBut.standAlone (h : s.StandsBut none) (ha : a < s.tables.assetCount)
    (hcause : (s.record a).cause = none) (k : NoticeKind) : (s.standAlone k a).StandsBut none := by
  have hheld : (s.modRecord a fun r => { r with latch := .held }).StandsBut none :=
    h.modRecord_plain ha rfl rfl rfl Iff.rfl
  have hread : (s.modRecord a fun r => { r with latch := .held }).record a = { s.record a with latch := .held } :=
    State.record_setRecord_self h.canonical ..
  rw [State.standAlone_eq]
  set held := (s.modRecord a fun r => { r with latch := .held }).countIndependent with hcounted
  set offered := ((held.requestAsset k a (held.record a).condition (held.record a).severity none
    (held.record a).dependents).offerStorm).offerEscalation k a with hoffered
  have hrecords : offered.correlator.records = (s.modRecord a fun r => { r with latch := .held }).correlator.records := by
    simp [hoffered, hcounted]
  have htables : offered.tables = s.tables := by simp [hoffered, hcounted]
  have hstill : offered.StandsBut none := hheld.congr hrecords (by simp [hoffered, hcounted])
    (by simp [hoffered, hcounted]) (by simp [hoffered, hcounted])
  have hjoined := hstill.joinAlone (a := a) (htables.symm ▸ ha) (by rw [State.record_congr hrecords, hread]; exact hcause)
  simp only [State.requestAdoptIfMasking]
  split
  · exact hjoined.requestAdopt a
  · exact hjoined

/-- A record that stands outside the four conditions of R3 qualifies. -/
theorem State.StandsBut.qualify (h : s.StandsBut none) (ha : a < s.tables.assetCount)
    (hfresh : (s.record a).faulted = false) (hout : (s.record a).condition ≠ .outOfService)
    (hattributed : s.Attributed) (c : Condition) (v : Severity) (k : NoticeKind) : (s.qualify a c v k).StandsBut none := by
  have hentered := h.enterFault ha hfresh hout (hattributed.cause_none hfresh) c v
  obtain ⟨-, -, hcause⟩ := hattributed.enterFault hfresh c v
  have htables : (s.enterFault a c v).tables = s.tables := by simp [State.enterFault]
  simp only [State.qualify]
  split
  · next hroot => exact hentered.suppress (htables.symm ▸ ha) hroot
  · exact hentered.standAlone (htables.symm ▸ ha) hcause k

/-! ## Restoration and service -/

/-- A job that is not the ADOPT of the root stays through its end. -/
theorem State.mem_endAdopt_walks {w : Walk} {root : Nat} (hw : w ∈ s.walks) (hne : w ≠ .adopt root) :
    w ∈ (s.endAdopt root).walks := by
  by_cases hadopt : .adopt root ∈ s.walks
  · rw [State.endAdopt_walks hadopt]
    exact List.mem_filter.mpr ⟨hw, decide_eq_true hne⟩
  · have hkept : s.endAdopt root = s := if_neg (by rwa [s.hasJob_iff])
    rwa [hkept]

/-- A job that joins is queued. -/
theorem State.mem_joinJob_walks (s : State) (w : Walk) : w ∈ (s.joinJob w).walks := by
  rw [State.joinJob, State.startFirst_walks]
  simp [State.walks, waitingJob]

/-- A RELEASE that was requested is queued (R50). -/
theorem State.release_mem_queueRelease (s : State) (root : Nat) : .release root ∈ (s.queueRelease root).walks := by
  simp only [State.queueRelease]
  split
  · exact State.mem_joinJob_walks ..
  · split
    · next hqueued => exact (s.hasJob_iff _).mp hqueued
    · exact State.mem_joinJob_walks ..

/-- The dependents of a record stay when it loses its cause, which is another. -/
theorem State.StandsBut.unattribute_dependents (h : s.StandsBut (some a)) :
    ((s.unattribute a).record a).dependents = (s.record a).dependents := by
  cases hnow : (s.record a).cause with
  | none => simp [State.unattribute, hnow]
  | some root =>
    have ha : a < s.tables.assetCount := h.lt_assetCount fun hclear => by
      rw [hclear] at hnow
      exact nomatch hnow
    have hne : a ≠ root := (h.sound.ancestors_lt ha (h.links a root hnow)).ne'
    rw [State.record_unattribute h.canonical hnow]
    simp [hne]

/-- The open record's RELEASE is queued if it has dependents, and stands as it did. -/
theorem State.StandsBut.released_if (h : s.StandsBut (some a)) (n : Nat) :
    (if 0 < n then s.queueRelease a else s).StandsBut (some a) ∧
      (0 < n → .release a ∈ (if 0 < n then s.queueRelease a else s).walks) ∧
      (if 0 < n then s.queueRelease a else s).correlator = s.correlator ∧
      (if 0 < n then s.queueRelease a else s).tables = s.tables := by
  split
  · exact ⟨h.queueRelease, fun _ => s.release_mem_queueRelease a, by simp, by simp⟩
  · next hzero => exact ⟨h, fun hpos => absurd hpos hzero, rfl, rfl⟩

/-- The record leaves the attribution at the end of a restore, its dependents and its condition staying (R20). -/
theorem State.StandsBut.settleRestored (h : s.StandsBut (some a)) (v : Severity) (n : Nat) {b : Bool}
    (hb : (s.record a).cause.isNone = b) : (s.settleRestored a v n b).StandsBut (some a) ∧
      ((s.settleRestored a v n b).record a).cause = none ∧
      ((s.settleRestored a v n b).record a).dependents = (s.record a).dependents ∧
      ((s.settleRestored a v n b).record a).condition = (s.record a).condition ∧
      (s.settleRestored a v n b).walks = s.walks ∧ (s.settleRestored a v n b).tables = s.tables := by
  have hframe : (s.settleRestored a v n b).walks = s.walks ∧ (s.settleRestored a v n b).tables = s.tables :=
    ⟨State.walks_congr (by simp), by simp⟩
  cases b with
  | true =>
    have hrecords : (s.settleRestored a v n true).correlator.records = s.correlator.records := by
      simp [State.settleRestored]
    have hcause : (s.record a).cause = none := by simpa using hb
    refine ⟨h.congr hrecords (by simp) (by simp) (by simp), ?_⟩
    rw [State.record_congr hrecords]
    exact ⟨hcause, rfl, rfl, hframe⟩
  | false =>
    obtain ⟨root, hroot⟩ := Option.isSome_iff_exists.mp (by simpa using hb : (s.record a).cause.isSome = true)
    have hread : (s.settleRestored a v n false).record a = _ := State.record_unattribute h.canonical hroot a
    refine ⟨h.unattribute, ?_, h.unattribute_dependents, ?_, hframe⟩
    · rw [hread]
      exact if_pos rfl
    · rw [hread]

/-- A faulted record is restored where its RELEASE has a place (R19, R20). -/
theorem State.StandsBut.restore (h : s.StandsBut none) (ha : a < s.tables.assetCount) : (s.restore a).StandsBut none := by
  set before := s.record a with hbefore
  have hnormal := (h.but a).modRecord ha
    (f := fun r => { r with condition := .normal, run := 0, severity := .none }) rfl
  have hread := State.record_setRecord_self h.canonical a
    { s.record a with condition := .normal, run := 0, severity := .none }
  obtain ⟨hqueued, hwalk, hcorrelator, htables⟩ := hnormal.released_if before.dependents
  set queued := if 0 < before.dependents then
    (s.modRecord a fun r => { r with condition := .normal, run := 0, severity := .none }).queueRelease a
    else s.modRecord a fun r => { r with condition := .normal, run := 0, severity := .none }
  have hrecord : queued.record a = { s.record a with condition := .normal, run := 0, severity := .none } :=
    (State.record_congr (congrArg _ hcorrelator) a).trans hread
  obtain ⟨hfreed, hcause, hdependents, hcondition, hwalks, -⟩ :=
    hqueued.settleRestored before.severity before.dependents (b := before.cause.isNone) (by rw [hrecord])
  set freed := queued.settleRestored a before.severity before.dependents before.cause.isNone
  have hstands : freed.StandsBut none := by
    have hnot : freed.maskingFaulted a = false :=
      State.not_maskingFaulted (by rw [FaultRecord.faulted, hcondition, hrecord]; rfl)
        (by rw [hcondition, hrecord]; exact nofun)
    refine hfreed.settledFreed hcause (fun hpos => .inr ?_) fun _ => hnot
    rw [hwalks]
    rw [hdependents, hrecord] at hpos
    exact hwalk hpos
  exact (hstands.leaveFreed hcause).endAdopt a

theorem State.StandsBut.attemptRestore (h : s.StandsBut none) (ha : a < s.tables.assetCount) :
    (s.attemptRestore a).StandsBut none := by
  simp only [State.attemptRestore]
  split
  · exact h
  · exact h.restore ha

/-- A record is taken out of service (R22). -/
theorem State.StandsBut.serviceOut (h : s.StandsBut none) (ha : a < s.tables.assetCount) :
    (s.serviceOut a).StandsBut none := by
  simp only [State.serviceOut]
  split
  · exact h
  · next hin =>
    have hfreed : (s.leaveAttribution a).StandsBut (some a) ∧ ((s.leaveAttribution a).record a).cause = none ∧
        ((s.leaveAttribution a).record a).dependents = (s.record a).dependents := by
      cases hindependent : (s.record a).independent with
      | true =>
        have hcause : (s.record a).cause = none := by
          simpa [FaultRecord.independent] using ((Bool.and_eq_true _ _).mp hindependent).2
        rw [State.leaveAttribution, if_pos hindependent]
        exact ⟨(h.but a).congr rfl rfl rfl rfl, hcause, rfl⟩
      | false =>
        rw [State.leaveAttribution, if_neg (by simp [hindependent])]
        refine ⟨(h.but a).unattribute, ?_, (h.but a).unattribute_dependents⟩
        cases hcause : (s.record a).cause with
        | none => simp [State.unattribute, hcause]
        | some root => simp [State.record_unattribute h.canonical hcause a]
    obtain ⟨hopen, hcause, hdependents⟩ := hfreed
    have hframe : (s.leaveAttribution a).tables = s.tables ∧ (s.leaveAttribution a).sweep = s.sweep := by
      simp only [State.leaveAttribution]
      split <;> simp
    obtain ⟨htables, hsweep⟩ := hframe
    set freed := s.leaveAttribution a
    have hout := hopen.modRecord (htables.symm ▸ ha) (f := fun r => { r with condition := .outOfService, run := 0 }) rfl
    set out := freed.modRecord a fun r => { r with condition := .outOfService, run := 0 }
    have hread : out.record a = { freed.record a with condition := .outOfService, run := 0 } :=
      State.record_setRecord_self hopen.canonical ..
    have hended : (out.endAdopt a).record a = { freed.record a with condition := .outOfService, run := 0 } :=
      (State.record_congr (by simp) a).trans hread
    have hclass : (out.endAdopt a).classOf a = s.classOf a :=
      State.classOf_congr ((by simp : (out.endAdopt a).tables = out.tables).trans htables) a
    have hstands := (hout.endAdopt a).cancelled (by rw [hended]; exact hcause) fun hpos hunmasked => by
      have hunmasking : (s.classOf a).masking = false := by
        simpa [State.maskingFaulted, hclass, hended] using hunmasked
      have hnot : s.maskingFaulted a = false := by simp [State.maskingFaulted, hunmasking]
      have hrelease : .release a ∈ s.walks := by
        refine (h.roots a nofun ?_).resolve_left (by rw [hnot]; exact nofun)
        rw [hended] at hpos
        exact hdependents ▸ hpos
      exact State.mem_endAdopt_walks (by rw [State.walks_congr (s := s) (t := out) hsweep]; exact hrelease) nofun
    refine hstands.leaveFreed ?_
    rw [State.record_congr (s := out.endAdopt a) (t := (out.endAdopt a).cancelReleaseIfMasking a) (by simp), hended]
    exact hcause

/-- A record OUT_OF_SERVICE is returned to service (R24). -/
theorem State.StandsBut.serviceIn (h : s.StandsBut none) (ha : a < s.tables.assetCount)
    (hcause : (s.record a).cause = none) : (s.serviceIn a).StandsBut none := by
  obtain ⟨hqueued, hwalk, hcorrelator, htables⟩ := (h.but a).released_if (s.record a).dependents
  have hrecord := State.record_congr (congrArg Correlator.records hcorrelator) a
  have hback := hqueued.modRecord (htables.symm ▸ ha)
    (f := fun r => { r with condition := .unknown, run := 0, severity := .none }) rfl
  set queued := if 0 < (s.record a).dependents then s.queueRelease a else s
  have hread : (queued.modRecord a fun r => { r with condition := .unknown, run := 0, severity := .none }).record a =
      { queued.record a with condition := .unknown, run := 0, severity := .none } :=
    State.record_setRecord_self hqueued.canonical ..
  rw [hrecord] at hread
  have hstands := hback.settledFreed ((congrArg FaultRecord.cause hread).trans hcause) ?_ fun _ => ?_
  · exact hstands.leaveFreed ((congrArg FaultRecord.cause hread).trans hcause)
  · intro hpos
    exact .inr (hwalk ((congrArg FaultRecord.dependents hread) ▸ hpos))
  · refine State.not_maskingFaulted ?_ ?_
    · exact congrArg FaultRecord.faulted hread
    · exact fun hout => nomatch (congrArg FaultRecord.condition hread).symm.trans hout

/-- A latch cleared takes a record that is not faulted off the list (R75). -/
theorem State.StandsBut.clearLatch (h : s.StandsBut none) (ha : a < s.tables.assetCount) (hattributed : s.Attributed) :
    (s.clearLatch a).StandsBut none := by
  have hcleared := h.modRecord_plain ha (f := fun r => { r with latch := .clear }) rfl rfl rfl Iff.rfl
  have hread := State.record_setRecord_self h.canonical a { s.record a with latch := .clear }
  by_cases hlisted : ((s.modRecord a fun r => { r with latch := .clear }).record a).listed = true
  · have hstays : s.clearLatch a = s.modRecord a fun r => { r with latch := .clear } := if_pos hlisted
    exact hstays ▸ hcleared
  · have hfaulted : (s.record a).faulted = false := by
      by_contra hf
      exact hlisted ((congrArg FaultRecord.listed hread).trans (by
        have : (s.record a).faulted = true := by simpa using hf
        simp only [FaultRecord.listed, FaultRecord.faulted] at this ⊢
        rw [this, Bool.true_or]))
    exact hcleared.leaveFreed ((congrArg FaultRecord.cause hread).trans (hattributed.cause_none hfaulted))

/-! ## The condition machine -/

/-- A standing fault that changes its condition (R11, R90). -/
theorem State.StandsBut.stand (h : s.StandsBut none) (ha : a < s.tables.assetCount)
    (hfaulted : (s.record a).faulted = true) {f : FaultRecord → FaultRecord}
    (hcause : (f (s.record a)).cause = (s.record a).cause)
    (hdependents : (f (s.record a)).dependents = (s.record a).dependents)
    (hstands : (f (s.record a)).faulted = true) : (s.modRecord a f).StandsBut none := by
  have hin : ∀ {r : FaultRecord}, r.faulted = true → r.condition ≠ .outOfService := fun hr hout => by
    rw [FaultRecord.faulted, hout] at hr
    exact nomatch hr
  exact h.modRecord_plain ha hcause hdependents (hstands.trans hfaulted.symm)
    ⟨fun hout => absurd hout (hin hstands), fun hout => absurd hout (hin hfaulted)⟩

/-- A record that stands outside the four conditions of R3, and stays outside them (R11). -/
theorem State.StandsBut.rest (h : s.StandsBut none) (ha : a < s.tables.assetCount)
    (hfresh : (s.record a).faulted = false) (hout : (s.record a).condition ≠ .outOfService)
    {f : FaultRecord → FaultRecord} (hcause : (f (s.record a)).cause = (s.record a).cause)
    (hdependents : (f (s.record a)).dependents = (s.record a).dependents) (hstays : (f (s.record a)).faulted = false)
    (hin : (f (s.record a)).condition ≠ .outOfService) : (s.modRecord a f).StandsBut none :=
  h.modRecord_plain ha hcause hdependents (hstays.trans hfresh.symm) ⟨fun hc => absurd hc hin, fun hc => absurd hc hout⟩

theorem State.StandsBut.recover (h : s.StandsBut none) (ha : a < s.tables.assetCount)
    (hfaulted : (s.record a).faulted = true) (n : Nat) : (s.recover a n).StandsBut none := by
  have hrecovering := h.stand ha hfaulted
    (f := fun r => { r with condition := .recovering, run := min n (s.classOf a).restoreCount }) rfl rfl rfl
  simp only [State.recover]
  split
  · exact hrecovering.attemptRestore ha
  · exact hrecovering

theorem State.StandsBut.suspect (h : s.StandsBut none) (ha : a < s.tables.assetCount)
    (hfresh : (s.record a).faulted = false) (hout : (s.record a).condition ≠ .outOfService) (hattributed : s.Attributed)
    (n : Nat) (v : Severity) : (s.suspect a n v).StandsBut none := by
  simp only [State.suspect]
  split
  · exact h.qualify ha hfresh hout hattributed ..
  · exact h.rest ha hfresh hout rfl rfl rfl nofun

theorem State.StandsBut.takeSeverity (h : s.StandsBut none) (ha : a < s.tables.assetCount)
    (hfaulted : (s.record a).faulted = true) (v : Severity) : (s.takeSeverity a v).StandsBut none := by
  have hstands := h.stand ha hfaulted (f := fun r => { r with condition := .fault, run := 0, severity := v }) rfl rfl rfl
  simp only [State.takeSeverity]
  split
  · exact hstands.congr (by simp) (by simp) (by simp) (by simp)
  · exact hstands

theorem State.StandsBut.runMachine (h : s.StandsBut none) (ha : a < s.tables.assetCount) (hattributed : s.Attributed)
    (st : Status) : (s.runMachine a st).StandsBut none := by
  have hfaulted : ∀ {c : Condition} {f : Bool}, (s.record a).condition = c → c.faulted = f → (s.record a).faulted = f :=
    fun hc hf => by rw [FaultRecord.faulted, hc, hf]
  have hnotOk : ∀ v, (s.machineNotOk a v).StandsBut none := by
    intro v
    simp only [State.machineNotOk]
    split
    case h_1 hc | h_2 hc | h_3 hc => exact h.suspect ha (hfaulted hc rfl) (by rw [hc]; exact nofun) hattributed ..
    case h_4 hc | h_5 hc | h_6 hc => exact h.takeSeverity ha (hfaulted hc rfl) v
    case h_7 => exact h
  cases st with
  | ok =>
    simp only [State.runMachine, State.machineOk]
    split
    case h_1 hc | h_2 hc | h_3 hc =>
      exact h.rest ha (hfaulted hc rfl) (by rw [hc]; exact nofun) rfl rfl rfl nofun
    case h_4 hc | h_5 hc | h_6 hc => exact h.recover ha (hfaulted hc rfl) _
    case h_7 => exact h
  | degraded | failed => exact hnotOk _

theorem State.StandsBut.processItem (h : s.StandsBut none) (ha : a < s.tables.assetCount) (hattributed : s.Attributed)
    (i : Item) (st : Status) (n : Nat) : (s.processItem a i st n).StandsBut none := by
  have hjudged : ∀ {t : State}, t.StandsBut none → t.tables = s.tables → t.Attributed →
      (t.judgeItem a st).StandsBut none := by
    intro t ht htables hat
    have ha : a < t.tables.assetCount := htables.symm ▸ ha
    have hscored := ht.modRecord_plain ha (f := scoreRecord (t.classOf a) t.now st) rfl rfl rfl Iff.rfl
    have hscoredAt : (t.modRecord a (scoreRecord (t.classOf a) t.now st)).Attributed :=
      hat.modRecord a rfl rfl (fun _ => rfl) fun _ => rfl
    have hflap : (t.scoreFlap a st).StandsBut none ∧ (t.scoreFlap a st).Attributed := by
      simp only [State.scoreFlap]
      split
      · exact ⟨hscored, hscoredAt⟩
      · exact ⟨hscored.congr (by simp) (by simp) (by simp) (by simp), hscoredAt.congr (by simp) (by simp) (by simp)⟩
    have hflapTables : (t.scoreFlap a st).tables = t.tables := by simp
    simp only [State.judgeItem]
    split
    · exact ht
    · exact hflap.1.runMachine (hflapTables.symm ▸ ha) hflap.2 st
  have hrefreshed : (s.refresh a i n).StandsBut none := h.modRecord_plain ha rfl rfl rfl Iff.rfl
  have hrefreshedAt : (s.refresh a i n).Attributed := hattributed.modRecord a rfl rfl (fun _ => rfl) fun _ => rfl
  simp only [State.processItem]
  split
  · split
    · exact hjudged hrefreshed rfl hrefreshedAt
    · exact hrefreshed.congr rfl rfl rfl rfl
  · exact hjudged (hrefreshed.modRecord_plain ha rfl rfl rfl Iff.rfl) rfl
      (hrefreshedAt.modRecord a rfl rfl (fun _ => rfl) fun _ => rfl)

theorem State.StandsBut.scanOnce (h : s.StandsBut none) (hattributed : s.Attributed) (hscan : s.scan < s.tables.assetCount) :
    s.scanOnce.StandsBut none := by
  set moved : State := { s with scan := if s.scan + 1 < s.tables.assetCount then s.scan + 1 else 0 }
  have hvisit : s.scanOnce = if moved.silentNow s.scan then moved.goSilent s.scan else moved := rfl
  have hmoved : moved.StandsBut none := h.congr rfl rfl rfl rfl
  have hmovedAt : moved.Attributed := hattributed.congr rfl rfl rfl
  have hfaulted : ∀ {c : Condition} {f : Bool}, (moved.record s.scan).condition = c → c.faulted = f →
      (moved.record s.scan).faulted = f := fun hc hf => by rw [FaultRecord.faulted, hc, hf]
  have hstanding : (moved.record s.scan).faulted = true → (moved.silenceStanding s.scan).StandsBut none := by
    intro hf
    have hstands := hmoved.stand hscan hf
      (f := fun r => { r with condition := .silent, run := 0, severity := .major }) rfl rfl rfl
    simp only [State.silenceStanding]
    split
    · exact hstands.congr (by simp) (by simp) (by simp) (by simp)
    · exact hstands
  rw [hvisit]
  split
  · next hsilent =>
    simp only [State.goSilent]
    split
    case h_1 hc | h_2 hc => exact hstanding (hfaulted hc rfl)
    case h_3 hc | h_4 hc | h_5 hc =>
      exact hmoved.qualify hscan (hfaulted hc rfl) (by rw [hc]; exact nofun) hmovedAt ..
    case h_6 hc => exact absurd hc (State.silentNow_condition hsilent)
    case h_7 hc => simp [State.silentNow, hc, Condition.scanned] at hsilent
  · exact hmoved

end

end Sys2Proof.Machine

/-! The roots of the causes over the walks of the Sweep Engine and the table writes, and over every step. -/

namespace Sys2Proof.Machine

section
variable {s t : State} {a : Nat}

/-! ## The walks -/

@[simp] theorem State.raiseTally_walks (s : State) : s.raiseTally.walks = s.walks := by
  simp only [State.raiseTally, State.walks]
  split
  · rfl
  · next hjobs => simp [hjobs]

/-- A walk that moves past an entry leaves everything but its own position. -/
theorem State.moveWalk_keeps (s : State) (next : Option Nat) : (s.moveWalk next).walks = s.walks ∧
    (s.moveWalk next).correlator = s.correlator ∧ (s.moveWalk next).board = s.board ∧
    (s.moveWalk next).tables = s.tables := by
  refine ⟨?_, by simp, by simp, by simp⟩
  simp only [State.moveWalk, State.walks]
  split
  · rfl
  · next hjobs => simp [hjobs]

/-- The running walk stands on `e`. -/
structure State.StandsOn (s : State) (j : SweepJob) (e : Nat) : Prop where
  first : s.sweep.jobs.head? = some j
  position : j.position = some e

theorem State.StandsBut.moved (h : s.StandsBut none) {j : SweepJob} {e : Nat} (hon : s.StandsOn j e) :
    (s.moveWalk (s.successor e)).StandsBut (some e) := by
  obtain ⟨rest, hrest⟩ := List.head?_eq_some_iff.mp hon.first
  exact h.moveWalk hrest hon.position

/-- An entry that the walk passes by, of another cause than its root. -/
theorem State.StandsBut.passedBy (h : s.StandsBut none) {j : SweepJob} {e : Nat} (hon : s.StandsOn j e)
    (hattributed : s.Attributed) (hcause : ∀ root, (s.record e).cause = some root → j.walk ≠ .release root) :
    (s.moveWalk (s.successor e)).StandsBut none := by
  obtain ⟨hwalks, hcorrelator, hboard, htables⟩ := s.moveWalk_keeps (s.successor e)
  have hrecord : (s.moveWalk (s.successor e)).record e = s.record e := State.record_congr (congrArg _ hcorrelator) e
  obtain ⟨rest, hrest⟩ := List.head?_eq_some_iff.mp hon.first
  refine (h.moved hon).settledAs h hwalks (State.maskingFaulted_congr ?_ ?_) ?_ ?_ fun root hroot i hi => ?_
  · rw [State.classOf_congr htables]
  · rw [hrecord]
  · rw [hrecord]
  · rw [hrecord, hboard]
    exact fun hne => hattributed.mem_board (hattributed.causeFaulted e hne)
  · rw [State.moveWalk_cons hrest] at hi
    obtain rfl : { j with position := s.successor e } = i := by simpa using hi
    exact hcause root (hrecord ▸ hroot)

/-- An entry is adopted under the root that its ancestor walk finds (R59). -/
theorem State.StandsBut.adopt (h : s.StandsBut (some a)) (hbefore : t.StandsBut none) (hwalks : s.walks = t.walks)
    (hcorrelator : s.correlator = t.correlator) (hboard : s.board = t.board) (htables : s.tables = t.tables)
    (hattributed : t.Attributed) (hfaulted : (t.record a).faulted = true) {root : Nat} (hroot : s.ancestor a = some root) :
    (s.adopt root a).StandsBut none := by
  have hrecord : ∀ b, s.record b = t.record b := State.record_congr (congrArg _ hcorrelator)
  have ha : a < s.tables.assetCount := h.lt_assetCount fun hclear => by
    rw [hrecord] at hclear
    rw [hclear] at hfaulted
    exact nomatch hfaulted
  have hfound : ancestorWithin t none 4 a = some root := by
    rw [← ancestorWithin_congr (congrArg _ hcorrelator) htables]
    exact hroot
  obtain ⟨-, -, hfree⟩ := hbefore.ancestor hfound
  have hmem := mem_ancestors_of_within hroot
  have hne : a ≠ root := (h.sound.ancestors_lt ha hmem).ne'
  have hattributedTo := h.attribute ha hmem (ancestorWithin_sound hroot).1
  have hread := State.record_attribute (s := s) (a := a) (root := root) h.canonical a
  have hcleared := hattributedTo.modRecord ha (f := fun r => { r with latch := .clear }) rfl
  have hlatch : ((s.attribute a root).modRecord a fun r => { r with latch := .clear }).record a =
      { (s.attribute a root).record a with latch := .clear } := State.record_setRecord_self hattributedTo.canonical ..
  set cleared := (s.attribute a root).modRecord a fun r => { r with latch := .clear }
  have hopen : (s.adopt root a).StandsBut (some a) := by
    have huncounted : (cleared.withdraw a).uncountIndependent.StandsBut (some a) :=
      hcleared.congr (by simp) (by simp) (by simp) (by simp)
    exact huncounted.raiseTally
  have hfinal : (s.adopt root a).record a = { t.record a with
      cause := some root, dependents := (t.record a).dependents, latch := .clear } := by
    have hsame : (s.adopt root a).record a = cleared.record a := State.record_congr (by simp [State.adopt, cleared]) a
    rw [hsame, hlatch, hread, hrecord]
    simp [hne]
  have hqueue : (s.adopt root a).walks = t.walks := by
    rw [State.adopt, State.raiseTally_walks, ← hwalks]
    exact State.walks_congr (by simp)
  refine hopen.settledAs hbefore hqueue (State.maskingFaulted_congr ?_ ?_) ?_ (fun _ => ?_) fun r hr => ?_
  · rw [State.classOf_congr (t := s.adopt root a) (s := t) (by simp [htables])]
  · rw [hfinal]
  · rw [hfinal]
  · have hkept : (s.adopt root a).board = t.board := by simp [hboard]
    rw [hkept]
    exact hattributed.mem_board hfaulted
  · rw [hfinal] at hr
    obtain rfl : root = r := Option.some.inj hr
    exact State.head_walk_ne (by rw [hqueue]; exact hfree)

/-- A dependent takes another cause, or none, as a RELEASE visit makes it (R64, R65). -/
theorem State.StandsBut.releaseVisit (h : s.StandsBut (some a)) (hbefore : t.StandsBut none) (hwalks : s.walks = t.walks)
    (hcorrelator : s.correlator = t.correlator) (hboard : s.board = t.board) (htables : s.tables = t.tables)
    (hattributed : t.Attributed) {root : Nat} (hcause : (t.record a).cause = some root) :
    (s.releaseVisit root a).StandsBut none := by
  have hrecord : ∀ b, s.record b = t.record b := State.record_congr (congrArg _ hcorrelator)
  have hnow : (s.record a).cause = some root := by rw [hrecord, hcause]
  have ha : a < s.tables.assetCount := h.lt_assetCount fun hclear => by
    rw [hclear] at hnow
    exact nomatch hnow
  have hread := State.record_unattribute h.canonical hnow a
  have hfreed := h.unattribute
  have hdependents := h.unattribute_dependents
  have hfreedTables : (s.unattribute a).tables = s.tables := by simp
  simp only [State.releaseVisit, hnow, if_true]
  split
  · next b hb =>
    have hfound : ancestorWithin t (some root) 4 a = some b := by
      rw [← ancestorWithin_congr (congrArg _ hcorrelator) htables]
      exact hb
    obtain ⟨-, -, hfree⟩ := hbefore.ancestor hfound
    have hmem := mem_ancestors_of_within hb
    have hne : a ≠ b := (h.sound.ancestors_lt ha hmem).ne'
    have hmasking : (s.unattribute a).maskingFaulted b = true := by
      rw [← (ancestorWithin_sound hb).1]
      refine State.maskingFaulted_congr (by rw [State.classOf_congr hfreedTables]) ?_
      rw [State.record_unattribute h.canonical hnow]
    have hancestors : (s.unattribute a).ancestors 4 a = s.ancestors 4 a :=
      State.ancestors_congr (fun c => by rw [State.asset_congr hfreedTables]) 4 a
    have hopen := hfreed.attribute (hfreedTables.symm ▸ ha) (hancestors.symm ▸ hmem) hmasking
    have hagain := State.record_attribute (a := a) (root := b) hfreed.canonical a
    have hqueue : ((s.unattribute a).attribute a b).walks = t.walks := by
      rw [← hwalks]
      exact State.walks_congr (by simp)
    refine hopen.settledAs hbefore hqueue (State.maskingFaulted_congr ?_ ?_) ?_ (fun _ => ?_) fun r hr => ?_
    · rw [State.classOf_congr (t := (s.unattribute a).attribute a b) (s := t) (by simp [htables])]
    · rw [hagain, hread, hrecord]
    · rw [hagain]
      simp only [hne, if_false, Nat.add_zero]
      rw [hdependents, hrecord]
    · have hkept : ((s.unattribute a).attribute a b).board = t.board := by simp [hboard]
      rw [hkept]
      exact hattributed.mem_board (hattributed.causeFaulted a (by rw [hcause]; exact nofun))
    · rw [hagain] at hr
      obtain rfl : b = r := Option.some.inj ((if_pos rfl).symm.trans hr)
      exact State.head_walk_ne (by rw [hqueue]; exact hfree)
  · have hcounted : (s.unattribute a).countIndependent.StandsBut (some a) := hfreed.congr rfl rfl rfl rfl
    have hheld := hcounted.modRecord (hfreedTables.symm ▸ ha) (f := fun r => { r with latch := .held }) rfl
    have hlatch : ((s.unattribute a).countIndependent.modRecord a fun r => { r with latch := .held }).record a =
        { (s.unattribute a).record a with latch := .held } := State.record_setRecord_self hcounted.canonical ..
    set held := (s.unattribute a).countIndependent.modRecord a fun r => { r with latch := .held } with hheldEq
    have hqueue : held.walks = t.walks := by
      rw [← hwalks]
      exact State.walks_congr (by simp [hheldEq])
    have hsettled : held.StandsBut none := by
      refine hheld.settledAs hbefore hqueue (State.maskingFaulted_congr ?_ ?_) ?_ ?_ ?_
      · rw [State.classOf_congr (t := held) (s := t) (by simp [hheldEq, htables])]
      · rw [hlatch, hread, hrecord]
      · rw [hlatch]
        exact hdependents.trans (by rw [hrecord])
      · rw [hlatch, hread]
        exact fun hne => absurd (if_pos rfl) hne
      · rw [hlatch, hread]
        exact fun r hr => nomatch (if_pos rfl).symm.trans hr
    exact hsettled.congr (by simp [State.unmask, hheldEq]) (by simp [State.unmask, hheldEq])
      (by simp [State.unmask, hheldEq]) (by simp [State.unmask, hheldEq])

theorem State.StandsBut.visit (h : s.StandsBut none) {j : SweepJob} {e : Nat} (hon : s.StandsOn j e)
    (hattributed : s.Attributed) : (s.visit j.walk e).StandsBut none := by
  obtain ⟨hwalks, hcorrelator, hboard, htables⟩ := s.moveWalk_keeps (s.successor e)
  have hmoved := h.moved hon
  have hrecord : ∀ b, (s.moveWalk (s.successor e)).record b = s.record b := State.record_congr (congrArg _ hcorrelator)
  simp only [State.visit]
  cases hw : j.walk with
  | adopt root =>
    simp only [State.adoptVisit]
    split
    · next hadoptable =>
      obtain ⟨-, hfaulted, -, -, hroot⟩ := (State.adoptable_iff ..).mp hadoptable
      exact hmoved.adopt h hwalks hcorrelator hboard htables hattributed (hrecord e ▸ hfaulted) hroot
    · exact h.passedBy hon hattributed fun _ _ => by rw [hw]; exact nofun
  | release root =>
    by_cases hcause : (s.record e).cause = some root
    · exact hmoved.releaseVisit h hwalks hcorrelator hboard htables hattributed hcause
    · show ((s.moveWalk (s.successor e)).releaseVisit root e).StandsBut none
      rw [State.releaseVisit_other (by rwa [hrecord])]
      refine h.passedBy hon hattributed fun r hr hrelease => hcause ?_
      rw [hr, Walk.release.inj (hw.symm.trans hrelease)]
  | ack zone =>
    have hpassed := h.passedBy hon hattributed fun _ _ => by rw [hw]; exact nofun
    simp only [State.ackVisit]
    split
    · next hvisit =>
      simp only [Bool.and_eq_true, decide_eq_true_eq, hrecord] at hvisit
      have he : e < s.tables.assetCount := h.lt_assetCount fun hclear => by
        rw [hclear] at hvisit
        exact nomatch hvisit.1.2
      exact hpassed.clearLatch (htables.symm ▸ he) (hattributed.congr (by rw [hcorrelator]) (by rw [hcorrelator]) hboard)
    · exact hpassed

/-- A root with dependents is the cause of some record. -/
theorem State.Attributed.exists_dependent (h : s.Attributed) {root : Nat} (hroot : (s.record root).dependents ≠ 0) :
    ∃ e, (s.record e).cause = some root := by
  rw [h.dependents] at hroot
  obtain ⟨e, he, hcause⟩ := List.countP_pos_iff.mp (Nat.pos_of_ne_zero hroot)
  exact ⟨e.1, by rw [show s.record e.1 = e.2 from tableGet_of_mem h.canonical he]; exact of_decide_eq_true hcause⟩

theorem State.StandsBut.sweepOnce (h : s.StandsBut none) (hattributed : s.Attributed)
    (hfirst : ∀ j ∈ s.sweep.jobs.head?, j.state = .running) : s.sweepOnce.StandsBut none := by
  cases hjobs : s.sweep.jobs with
  | nil => rwa [State.sweepOnce_empty hjobs]
  | cons j rest =>
    have hhead : s.sweep.jobs.head? = some j := by rw [hjobs]; rfl
    have hremoved : (∀ root, j.walk = .release root → (s.record root).dependents = 0) → (s.removeJob j.walk).StandsBut none :=
      fun hzero => h.removeJob fun b hb _ hpos => absurd (hzero b hb) (Nat.ne_of_gt hpos)
    by_cases hdone : s.releaseDone j.walk = true
    · have hstep : s.sweepOnce = s.removeJob j.walk := by simp [State.sweepOnce, hjobs, hdone]
      rw [hstep]
      refine hremoved fun root hw => ?_
      simpa [State.releaseDone, hw] using hdone
    · have hgoing : s.releaseDone j.walk = false := by simpa using hdone
      cases hposition : j.position with
      | some e =>
        have hstep : s.sweepOnce = s.visit j.walk e := by simp [State.sweepOnce, hjobs, hgoing, hposition]
        rw [hstep]
        exact h.visit ⟨hhead, hposition⟩ hattributed
      | none =>
        have hstep : s.sweepOnce = s.endWalk j.walk := by simp [State.sweepOnce, hjobs, hgoing, hposition]
        have hended : (s.removeJob j.walk).StandsBut none := hremoved fun root hw => by
          by_contra hroot
          obtain ⟨e, he⟩ := hattributed.exists_dependent hroot
          obtain ⟨p, hp, -⟩ := h.ahead j hhead (hfirst j hhead) root hw e nofun he
          exact nomatch hposition.symm.trans hp
        rw [hstep]
        cases hw : j.walk with
        | adopt root => exact h.endAdopt root
        | release | ack => rw [← hw]; exact hw ▸ hended

/-! ## Tables written in service -/

/-- Tables that keep the parents and the masking of every asset, and records that keep all but their runs. -/
theorem State.StandsBut.retabled (h : s.StandsBut none) (hsound : t.TablesSound)
    (hcanonical : Table.wf clearRecord t.correlator.records) (hrecords : ∀ b, ∃ n, t.record b = { s.record b with run := n })
    (hclear : ∀ b, s.record b = clearRecord → t.record b = clearRecord) (hboard : t.board = s.board)
    (hsweep : t.sweep = s.sweep) (hcount : t.tables.assetCount = s.tables.assetCount)
    (hparents : ∀ b, (t.asset b).parent = (s.asset b).parent)
    (hmasking : ∀ b < s.tables.assetCount, (t.classOf b).masking = (s.classOf b).masking) : t.StandsBut none := by
  have hcause : ∀ b, (t.record b).cause = (s.record b).cause := fun b => by obtain ⟨n, hn⟩ := hrecords b; rw [hn]
  have hdependents : ∀ b, (t.record b).dependents = (s.record b).dependents := fun b => by
    obtain ⟨n, hn⟩ := hrecords b
    rw [hn]
  have hancestors := State.ancestors_congr hparents 4
  have hwalks : t.walks = s.walks := State.walks_congr hsweep
  have hstanding : ∀ b, t.maskingFaulted b = s.maskingFaulted b := fun b => by
    by_cases hb : b < s.tables.assetCount
    · obtain ⟨n, hn⟩ := hrecords b
      exact State.maskingFaulted_congr (hmasking b hb) (by rw [hn])
    · have hs := h.beyond b (Nat.not_lt.mp hb)
      have ht := hclear b hs
      rw [State.not_maskingFaulted (s := t) (by rw [ht]; rfl) (by rw [ht]; exact nofun),
        State.not_maskingFaulted (s := s) (by rw [hs]; rfl) (by rw [hs]; exact nofun)]
  obtain ⟨-, honce, -, hlinks, hbeyond, hcaused, hroots, hreleased, hothers, hahead⟩ := h
  refine ⟨hcanonical, hboard ▸ honce, hsound, ?_, fun b hb => hclear b (hbeyond b (hcount ▸ hb)), ?_, ?_, ?_, ?_, ?_⟩
  · simpa only [hcause, hancestors]
  · simpa only [hcause, hboard]
  · simpa only [hdependents, hstanding, hwalks]
  · simpa only [hstanding, hwalks]
  · simpa only [hsweep]
  · simpa only [hsweep, hcause, hboard]

/-- The records after a run adjustment keep all but their runs, and a clear one stays clear. -/
theorem State.record_adjustRuns (w : Table.wf clearRecord s.correlator.records) (u : State) (b : Nat) :
    (∃ n, (s.adjustRuns u).record b = { s.record b with run := n }) ∧
      (s.record b = clearRecord → (s.adjustRuns u).record b = clearRecord) := by
  simp only [State.adjustRuns]
  split
  · have hread : tableGet clearRecord (tableMap clearRecord (fun a r => adjustRun (u.classOf a) (s.classOf a) r)
        s.correlator.records) b = adjustRun (u.classOf b) (s.classOf b) (s.record b) :=
      tableGet_tableMap w (fun a r => adjustRun (u.classOf a) (s.classOf a) r) (fun _ => rfl) b
    simp only [State.record] at hread ⊢
    rw [hread]
    exact ⟨adjustRun_eq .., fun hclear => by rw [hclear]; rfl⟩
  · exact ⟨⟨_, rfl⟩, id⟩

/-- A class entry that passes the live test keeps the masking of every asset (R137). -/
theorem State.masking_putClass (hsound : s.TablesSound) (w : Table.wf none s.tables.classes) {e : Bytes}
    (hready : s.correlator.state = .ready) (htest : s.classTest e = none) :
    ∀ b < s.tables.assetCount, ((s.putClass e).classOf b).masking = (s.classOf b).masking := by
  intro b hb
  obtain ⟨c, hc⟩ := Option.isSome_iff_exists.mp (hsound.loaded b hb)
  have hread : (s.putClass e).loadedClass (s.asset b).cls =
      if (s.asset b).cls = classIndex e then some (classEntryOf e) else s.loadedClass (s.asset b).cls :=
    tableGet_tableSet w ..
  have hnew : (s.putClass e).classOf b = ((s.putClass e).loadedClass (s.asset b).cls).getD notLoadedClass := rfl
  have hold : s.classOf b = c := by rw [State.classOf, hc]; rfl
  rw [hnew, hread, hold]
  split
  · next hindex => exact ((State.classTest_eq_none htest).2 hready c (hindex ▸ hc)).symm
  · rw [hc]
    rfl

/-- Asset entries that pass the live test keep the parent and the masking of every asset (R139). -/
theorem State.putAssets_keeps (w : Table.wf unwrittenAsset s.tables.assets) (hready : s.correlator.state = .ready)
    {es : List Bytes} (htest : ∀ e ∈ es, s.assetTest e = none) (b : Nat) :
    ((es.foldl State.putAsset s).asset b).parent = (s.asset b).parent ∧
      ((es.foldl State.putAsset s).classOf b).masking = (s.classOf b).masking := by
  rw [State.foldl_putAsset]
  rcases tableGet_foldl_writes (key := assetIndex) (val := assetOf) w es b with hold | ⟨e, he, rfl, hnew⟩
  · simp only [State.classOf, State.asset, State.loadedClass, hold, and_self]
  · obtain ⟨-, hparent, c, hc, hmasking⟩ := State.assetTest_eq_none (htest e he) hready
    simp only [State.classOf, State.asset, State.loadedClass, hnew] at hc hmasking hparent ⊢
    exact ⟨hparent, by rw [hc]; exact hmasking⟩

/-! ## Every step -/

/-- Every move keeps the Sweep Queue in order. -/
theorem State.Move.order (hmove : s.Move t) : s.KeepsOrder t := by
  cases hmove with
  | outside ht =>
    obtain ⟨-, -, -, hboard, hjobs, -⟩ := Core.mk.inj ht.core
    exact .unchanged hboard hjobs
  | long => exact .unchanged rfl rfl
  | item => exact s.processItem_order ..
  | holdoff => exact .unchanged (by simp) (by simp)
  | scanned => exact s.scanOnce_order
  | swept => exact s.sweepOnce_order
  | unlatched => exact s.clearLatch_order _
  | takenOut => exact s.serviceOut_order _
  | returned _ _ _ hplace => exact s.serviceIn_order hplace
  | acknowledged _ hplace => exact s.queueAck_order hplace
  | classWritten => exact .unchanged (by simp) (by simp)
  | templatesWritten es =>
    rw [State.foldl_putTemplate]
    exact .unchanged rfl rfl
  | @assetsWritten es => exact .unchanged (by simp [State.foldl_putAsset]) (by simp [State.foldl_putAsset])
  | @trunksWritten es =>
    obtain ⟨sources, hwritten⟩ := s.followUse_putTrunks es
    rw [hwritten]
    exact .unchanged rfl rfl
  | powered => exact .emptied rfl rfl
  | initialised => exact .emptied (by simp [State.endInit]) (by simp [State.endInit])
  | restarts full => exact s.beginRestart_order full
  | @restarted toReady => cases toReady <;> exact .unchanged rfl rfl
  | validates => exact .unchanged rfl rfl
  | @served n =>
    obtain ⟨table, hserved, -⟩ := s.enterService_eq n
    rw [hserved]
    exact .unchanged rfl rfl
  | loadFailed => exact .unchanged rfl rfl

/-- The scan position of a READY part lies below the asset count, or is 0 (R85). -/
def State.ScanWithin (s : State) : Prop := s.scan = 0 ∨ s.scan < s.tables.assetCount

theorem State.ScanWithin.congr (h : s.ScanWithin) (hscan : t.scan = s.scan) (htables : t.tables = s.tables) :
    t.ScanWithin := by simpa only [State.ScanWithin, hscan, htables] using h

/-- In READY the invariant has every cause stand. -/
theorem State.RootsStand.stands (h : s.RootsStand) (hready : s.correlator.state = .ready) : s.StandsBut none := by
  have hqueued : ∀ b, (∃ j ∈ s.sweep.jobs, j.walk = .release b) ↔ .release b ∈ s.walks := fun b => by
    simp [State.walks]
  refine ⟨h.attributed.canonical, h.attributed.once, h.service.ready hready, h.links, h.beyond, fun e _ hcause => ?_,
    fun b _ hb => ?_, fun b _ hb => ?_, fun j hj => (h.sweep.others j hj).1,
    fun j hj _ root hw e _ hcause => h.ahead j hj root hw e hcause⟩
  · exact h.attributed.mem_board (h.attributed.causeFaulted e hcause)
  · exact (h.roots b hb).imp_right (hqueued b).mp
  · obtain ⟨j, hj, hw⟩ := (hqueued b).mpr hb
    exact h.released j hj b hw

/-- The invariant in READY, from the standing of every cause. -/
theorem State.StandsBut.rootsStand (h : s.StandsBut none) (hattributed : s.Attributed) (hsweep : s.SweepOrdered)
    (hservice : s.ServiceSound) (hready : s.correlator.state = .ready) (hscan : s.ScanWithin) : s.RootsStand := by
  refine ⟨hattributed, hsweep, hservice, h.links, fun b hb => ?_, fun j hj b hw => ?_, fun j hj root hw e hcause => ?_,
    h.beyond, hscan, fun hne => absurd hready hne⟩
  · exact (h.roots b nofun hb).imp_right fun hwalk => by
      obtain ⟨j, hj, hw⟩ := List.mem_map.mp hwalk
      exact ⟨j, hj, hw⟩
  · exact h.released b nofun (hw ▸ List.mem_map_of_mem hj)
  · exact h.ahead j hj (hsweep.first j hj) root hw e nofun hcause

/-- The invariant of a part that holds no record, no job and no scan position. -/
theorem State.RootsStand.empty (hattributed : s.Attributed) (hsweep : s.SweepOrdered) (hservice : s.ServiceSound)
    (hrecords : s.correlator.records = []) (hjobs : s.sweep.jobs = []) (hscan : s.scan = 0) : s.RootsStand := by
  have hread : ∀ b, s.record b = clearRecord := fun b => by rw [State.record, hrecords, tableGet_nil]
  refine ⟨hattributed, hsweep, hservice, fun a root hcause => ?_, fun a hpos => ?_, fun j hj => ?_, fun j hj => ?_,
    fun a _ => hread a, .inl hscan, fun _ => hscan⟩
  · rw [hread] at hcause
    exact nomatch hcause
  · rw [hread] at hpos
    exact nomatch hpos
  · rw [hjobs] at hj
    exact nomatch hj
  · rw [hjobs] at hj
    exact nomatch hj

/-- A part that holds no record, no job and no scan position. -/
structure State.Empty (s : State) : Prop where
  records : s.correlator.records = []
  jobs : s.sweep.jobs = []
  scan : s.scan = 0

theorem State.Empty.congr (h : s.Empty) (hrecords : t.correlator.records = s.correlator.records)
    (hjobs : t.sweep.jobs = s.sweep.jobs) (hscan : t.scan = s.scan) : t.Empty :=
  ⟨hrecords.trans h.records, hjobs.trans h.jobs, hscan.trans h.scan⟩

/-- A move from a part that is not READY leaves it empty. -/
theorem State.Move.empty (hmove : s.Move t) (h : s.Empty) (hnot : s.correlator.state ≠ .ready) : t.Empty := by
  have hwrites : ∀ {u : State}, u.correlator = s.correlator → (u.adjustRuns s) = u := fun hu =>
    if_neg (by simpa [State.ready, hu] using hnot)
  cases hmove with
  | outside ht =>
    obtain ⟨-, hrecords, -, -, hjobs, hscan, -⟩ := Core.mk.inj ht.core
    exact h.congr hrecords hjobs hscan
  | long => exact h.congr rfl rfl rfl
  | item _ _ _ hready | holdoff hready | scanned hready | unlatched hready | takenOut hready | returned hready
  | acknowledged hready => exact absurd hready hnot
  | swept => exact (State.sweepOnce_empty h.jobs).symm ▸ h
  | @classWritten e =>
    rw [hwrites (u := s.putClass e) rfl]
    exact h.congr rfl rfl rfl
  | templatesWritten es =>
    rw [State.foldl_putTemplate]
    exact h.congr rfl rfl rfl
  | @assetsWritten es =>
    rw [hwrites (by rw [State.foldl_putAsset]), State.foldl_putAsset]
    exact h.congr rfl rfl rfl
  | @trunksWritten es =>
    obtain ⟨sources, hwritten⟩ := s.followUse_putTrunks es
    rw [hwritten]
    exact h.congr rfl rfl rfl
  | powered => exact ⟨rfl, rfl, rfl⟩
  | initialised => exact ⟨by simp [State.endInit], by simp [State.endInit], by simpa [State.endInit] using h.scan⟩
  | restarts full => exact ⟨rfl, rfl, rfl⟩
  | @restarted toReady => cases toReady <;> exact h.congr rfl rfl rfl
  | validates => exact h.congr rfl rfl rfl
  | @served n =>
    obtain ⟨table, hserved, -⟩ := s.enterService_eq n
    rw [hserved]
    exact h.congr rfl rfl rfl
  | loadFailed => exact h.congr rfl rfl rfl

/-- A move from a READY part has every cause stand, or leaves the part empty. -/
theorem State.Move.stands (hmove : s.Move t) (h : s.StandsBut none) (hattributed : s.Attributed) (hsweep : s.SweepOrdered)
    (hservice : s.ServiceSound) (hready : s.correlator.state = .ready) (hscan : s.ScanWithin) :
    t.StandsBut none ∧ t.correlator.state = .ready ∧ t.ScanWithin ∨ t.Empty := by
  have hnot : ∀ {c : CorrelatorState}, c ≠ .ready → s.correlator.state ≠ c := fun hc he => hc (he.symm.trans hready)
  have hsound : t.correlator.state = .ready → t.TablesSound := fun hr => (hmove.serviceSound hservice).ready hr
  have hcanonical := (hmove.fits.canonical hservice.canonical).records
  cases hmove with
  | outside ht =>
    obtain ⟨hstate, hrecords, -, hboard, hjobs, hposition, htables, -⟩ := Core.mk.inj ht.core
    exact .inl ⟨h.congr hrecords hboard hjobs htables, hstate.trans hready, hscan.congr hposition htables⟩
  | long => exact .inl ⟨h.congr rfl rfl rfl rfl, hready, hscan.congr rfl rfl⟩
  | item i v n _ ha =>
    exact .inl ⟨h.processItem ha hattributed i v n, (s.processItem_steady ..).state.trans hready,
      hscan.congr (by simp) (by simp)⟩
  | @holdoff a _ ha =>
    refine .inl ⟨?_, (s.setHoldoff_steady a).state.trans hready, hscan.congr (by simp) (by simp)⟩
    simp only [State.setHoldoff]
    split
    · exact h.modRecord_plain ha rfl rfl rfl Iff.rfl
    · exact h
  | scanned _ hassets =>
    have hposition : s.scan < s.tables.assetCount := hscan.elim (fun hzero => hzero ▸ hassets) id
    refine .inl ⟨h.scanOnce hattributed hposition, s.scanOnce_steady.state.trans hready, ?_⟩
    have hmoved : s.scanOnce.scan = if s.scan + 1 < s.tables.assetCount then s.scan + 1 else 0 := by
      rw [State.scanOnce]
      simp only [apply_ite State.scan, State.goSilent_frame, ite_self]
    rw [State.ScanWithin, hmoved, s.scanOnce_steady.tables]
    split
    · next hbelow => exact .inr hbelow
    · exact .inl rfl
  | swept =>
    exact .inl ⟨h.sweepOnce hattributed hsweep.first, s.sweepOnce_steady.state.trans hready,
      hscan.congr (by simp) (by simp)⟩
  | unlatched _ ha =>
    exact .inl ⟨h.clearLatch ha hattributed, (s.clearLatch_steady _).state.trans hready, hscan.congr (by simp) (by simp)⟩
  | @takenOut a _ ha =>
    have hposition : (s.serviceOut a).scan = s.scan := by
      simp only [State.serviceOut, State.takeOut, State.leaveAttribution]
      repeat' split
      all_goals simp
    exact .inl ⟨h.serviceOut ha, (s.serviceOut_steady a).state.trans hready,
      hscan.congr hposition (s.serviceOut_steady a).tables⟩
  | @returned a _ ha hout =>
    have hcause : (s.record a).cause = none :=
      hattributed.cause_none (by rw [FaultRecord.faulted, hout]; rfl)
    have hposition : (s.serviceIn a).scan = s.scan := by
      simp only [State.serviceIn]
      split <;> simp
    exact .inl ⟨h.serviceIn ha hcause, (s.serviceIn_steady a).state.trans hready,
      hscan.congr hposition (s.serviceIn_steady a).tables⟩
  | @acknowledged z =>
    exact .inl ⟨h.queueAck z, (s.queueAck_steady z).state.trans hready, hscan.congr (by simp) (by simp)⟩
  | @classWritten e _ htest =>
    have hstate : ((s.putClass e).adjustRuns s).correlator.state = .ready := by simpa using hready
    have hrecord := State.record_adjustRuns (s := s.putClass e) h.canonical s
    refine .inl ⟨h.retabled (hsound hstate) hcanonical (fun b => (hrecord b).1) (fun b => (hrecord b).2) (by simp) (by simp)
      (by simp) (fun b => ?_) (fun b hb => ?_), hstate, ?_⟩
    · rw [State.asset_congr (t := (s.putClass e).adjustRuns s) (s := s.putClass e) (by simp)]
      rfl
    · rw [State.classOf_congr (t := (s.putClass e).adjustRuns s) (s := s.putClass e) (by simp)]
      exact State.masking_putClass h.sound hservice.canonical.classes hready htest b hb
    · simpa [State.ScanWithin] using hscan
  | templatesWritten es =>
    rw [State.foldl_putTemplate] at hsound hcanonical ⊢
    exact .inl ⟨h.retabled (hsound hready) hcanonical (fun _ => ⟨_, rfl⟩) (fun _ => id) rfl rfl rfl (fun _ => rfl)
      fun _ _ => rfl, hready, hscan⟩
  | @assetsWritten es _ htest =>
    have hput : (es.foldl State.putAsset s).correlator = s.correlator ∧ (es.foldl State.putAsset s).board = s.board ∧
        (es.foldl State.putAsset s).sweep = s.sweep ∧ (es.foldl State.putAsset s).scan = s.scan ∧
        (es.foldl State.putAsset s).tables.assetCount = s.tables.assetCount := by
      rw [State.foldl_putAsset]
      exact ⟨rfl, rfl, rfl, rfl, rfl⟩
    have hkeeps := State.putAssets_keeps hservice.canonical.assets hready htest
    set put := es.foldl State.putAsset s
    obtain ⟨hcorrelator, hboard, hjobs, hposition, hcount⟩ := hput
    have htables : (put.adjustRuns s).tables = put.tables := by simp
    have hstate : (put.adjustRuns s).correlator.state = .ready := by simpa [hcorrelator] using hready
    have hrecord := State.record_adjustRuns (s := put) (hcorrelator.symm ▸ h.canonical) s
    have hsame : ∀ b, put.record b = s.record b := State.record_congr (congrArg _ hcorrelator)
    simp only [hsame] at hrecord
    refine .inl ⟨h.retabled (hsound hstate) hcanonical (fun b => (hrecord b).1) (fun b => (hrecord b).2)
      (by simp [hboard]) (by simp [hjobs]) (by simp [hcount]) (fun b => ?_) (fun b _ => ?_), hstate, ?_⟩
    · rw [State.asset_congr htables]
      exact (hkeeps b).1
    · rw [State.classOf_congr htables]
      exact (hkeeps b).2
    · simpa [State.ScanWithin, hposition, hcount] using hscan
  | @trunksWritten es =>
    obtain ⟨sources, hwritten⟩ := s.followUse_putTrunks es
    rw [hwritten] at hsound hcanonical ⊢
    exact .inl ⟨h.retabled (hsound hready) hcanonical (fun _ => ⟨_, rfl⟩) (fun _ => id) rfl rfl rfl (fun _ => rfl)
      fun _ _ => rfl, hready, hscan⟩
  | powered => exact .inr ⟨rfl, rfl, rfl⟩
  | initialised hinit => exact absurd hinit (hnot nofun)
  | restarts full => exact .inr ⟨rfl, rfl, rfl⟩
  | restarted hlong => exact absurd (hservice.quiet.clearing _ hlong) (hnot nofun)
  | validates _ hloading => exact absurd hloading (hnot nofun)
  | served hlong => exact absurd (hservice.quiet.validating _ hlong) (hnot nofun)
  | loadFailed hlong => exact absurd (hservice.quiet.validating _ hlong) (hnot nofun)

/-- Every move keeps every cause standing. -/
theorem State.Move.rootsStand (hmove : s.Move t) (h : s.RootsStand) : t.RootsStand := by
  have hattributed := hmove.attributed h.attributed
  have hsweep := hmove.order.ordered h.sweep
  have hservice := hmove.serviceSound h.service
  have hempty : t.Empty → t.RootsStand := fun he =>
    .empty hattributed hsweep hservice he.records he.jobs he.scan
  by_cases hready : s.correlator.state = .ready
  · rcases hmove.stands (h.stands hready) h.attributed h.sweep h.service hready h.scan with ⟨hstands, hstays, hscan⟩ | he
    · exact hstands.rootsStand hattributed hsweep hservice hstays hscan
    · exact hempty he
  · obtain ⟨hrecords, -, hjobs, -⟩ := h.service.quiet.quiet hready
    exact hempty (hmove.empty ⟨hrecords, hjobs, h.scanAtRest hready⟩ hready)

end

/-- Settles O59: every move keeps the faults attributed, and every cause standing. -/
theorem everyStepKeepsFaultsAttributed : Obligations.EveryStepKeepsFaultsAttributed := by
  unfold Obligations.EveryStepKeepsFaultsAttributed
  have hattributed : ∀ (s : State) q, s.Attributed → { s with pending := q }.Attributed := fun s q hs => hs.congr rfl rfl rfl
  have hservice : ∀ (s : State) q, s.ServiceSound → { s with pending := q }.ServiceSound := fun s q hs =>
    ⟨{ hs.canonical with }, { hs.quiet with }, fun hr => (hs.ready hr).congr rfl, fun hr => (hs.returning hr).congr rfl⟩
  have hroots : ∀ (s : State) q, s.RootsStand → { s with pending := q }.RootsStand := fun s q hs =>
    ⟨hattributed s q hs.attributed, hs.sweep.of_eq rfl rfl, hservice s q hs.service, hs.links, hs.roots, hs.released, hs.ahead,
      hs.beyond, hs.scan, hs.scanAtRest⟩
  exact ⟨fun s t hs h => step_keeps (fun hmove => hmove.attributed) hattributed hs h,
    fun s t hs h => step_keeps (fun hmove => hmove.rootsStand) hroots hs h⟩

end Sys2Proof.Machine

namespace Sys2Proof.Machine

/-! ## Qualification, the steps of an item, and restoration (01_fault_records_and_qualification.md, R7 to R21) -/

section
variable {s : State}

/-- A class that masks, in a record faulted, is masking-faulted (R3). -/
theorem State.maskingFaulted_of_faulted {a : Nat} (h : (s.record a).faulted = true) :
    s.maskingFaulted a = (s.classOf a).masking := by
  simp [State.maskingFaulted, h]

/-- A qualification enters its condition, and cancels the RELEASE job of a masking class (R13, R66). -/
theorem State.enterFault_eq {c : Condition} (hc : c = .fault ∨ c = .silent) (a : Nat) (v : Severity) :
    let entered := s.setRecord a
      { s.record a with condition := c, run := 0, severity := v, qualifiedAt := some s.agent.time }
    s.enterFault a c v = if (s.classOf a).masking = true then entered.cancelRelease a else entered := by
  intro entered
  have hread : entered.record a =
      { s.record a with condition := c, run := 0, severity := v, qualifiedAt := some s.agent.time } :=
    State.record_setRecord_of_ne _ (by simp [clearRecord]) a
  have hfaulted : (entered.record a).faulted = true := by
    rw [hread]
    rcases hc with rfl | rfl <;> rfl
  have hmask : entered.maskingFaulted a = (s.classOf a).masking := State.maskingFaulted_of_faulted hfaulted
  change entered.cancelReleaseIfMasking a = _
  rw [State.cancelReleaseIfMasking, hmask]

/-- What a qualification leaves in the record it enters. -/
theorem State.record_enterFault {c : Condition} (a : Nat) (v : Severity) : (s.enterFault a c v).record a =
    { s.record a with condition := c, run := 0, severity := v, qualifiedAt := some s.agent.time } := by
  rw [State.record_congr (s := s.setRecord a
    { s.record a with condition := c, run := 0, severity := v, qualifiedAt := some s.agent.time })]
  · exact State.record_setRecord_of_ne _ (by simp [clearRecord]) a
  · simp only [State.enterFault, State.cancelReleaseIfMasking_frame]
    rfl

/-- The independent outcome, of a record not clear that reads as `r` (R16). -/
theorem State.standAlone_of_record {a : Nat} {r : FaultRecord} (hr : s.record a = r) (k : NoticeKind) :
    let held := s.setRecord a { r with latch := .held }
    let counted := { held with correlator.independentCount := s.correlator.independentCount + 1 }
    let told := counted.requestAsset k a r.condition r.severity none r.dependents
    let joined := (told.offerStorm.offerEscalation k a).join a
    s.standAlone k a = if (s.classOf a).masking = true ∧ 0 < (s.classOf a).adoptionWindow then joined.requestAdopt a
      else joined := by
  subst hr
  intro held counted told joined
  have hread : counted.record a = { s.record a with latch := .held } :=
    State.record_setRecord_of_ne _ (by simp [clearRecord]) a
  have htold : told = counted.requestAsset k a (counted.record a).condition (counted.record a).severity none
      (counted.record a).dependents := by rw [hread]
  have hclass : joined.classOf a = s.classOf a := State.classOf_congr (by simp [joined, told, counted, held]) a
  rw [State.standAlone_eq]
  change (((counted.requestAsset k a (counted.record a).condition (counted.record a).severity none
      (counted.record a).dependents).offerStorm.offerEscalation k a).join a).requestAdoptIfMasking a = _
  rw [← htold, State.requestAdoptIfMasking]
  change (if ((joined.classOf a).masking && decide (0 < (joined.classOf a).adoptionWindow)) = true then _ else _) = _
  rw [hclass]
  simp only [Bool.and_eq_true, decide_eq_true_eq]
  rfl

end

/-- Settles O43: the entry, the walk for a cause, and the two outcomes. -/
theorem qualificationTakesItsOutcome : Obligations.QualificationTakesItsOutcome := by
  unfold Obligations.QualificationTakesItsOutcome
  refine ⟨fun s a condition severity kind hc => ?_, fun s a => ⟨State.join_listed, fun h => if_neg h⟩⟩
  intro entered freed
  have hfreed : s.enterFault a condition severity = freed := State.enterFault_eq hc a severity
  have hrecord : freed.record a =
      { s.record a with condition := condition, run := 0, severity := severity, qualifiedAt := some s.agent.time } :=
    hfreed ▸ State.record_enterFault a severity
  have hclass : freed.classOf a = s.classOf a := hfreed ▸ State.classOf_congr (by simp) a
  have hcount : freed.correlator.independentCount = s.correlator.independentCount := hfreed ▸ by simp
  refine ⟨fun root hroot => ?_, fun hnone => ?_⟩
  · rw [State.qualify, hfreed]
    simp only [hroot]
    rfl
  · intro held counted told joined
    rw [State.qualify, hfreed]
    simp only [hnone]
    have halone := State.standAlone_of_record hrecord kind
    simp only [hclass, hcount] at halone
    rw [halone]
    simp only [joined, told, counted, held, hrecord]

section
variable {s : State} {a : Nat}

/-- A test holdoff in the words of R8. -/
theorem State.processItem_eq (s : State) (a n : Nat) (i : Item) (status : Status) :
    let heard := s.refresh a i n
    let running := ∃ t, (heard.record a).testUntil = some t ∧ s.agent.time < t
    (running → status ≠ .ok → s.processItem a i status n =
      heard.modSource n fun e => { e with testItems := countUp e.testItems 1 }) ∧
    (running → status = .ok → s.processItem a i status n = heard.judgeItem a status) ∧
    (¬ running → s.processItem a i status n = (heard.modRecord a fun r => { r with testUntil := none }).judgeItem a status) := by
  intro heard running
  have hgate : (heard.record a).holdoffRunning heard.now = true ↔ running := FaultRecord.holdoffRunning_iff ..
  refine ⟨fun hrun hst => ?_, fun hrun hst => ?_, fun hrun => ?_⟩
  · exact (if_pos (hgate.mpr hrun)).trans (if_neg hst)
  · exact (if_pos (hgate.mpr hrun)).trans (if_pos hst)
  · exact if_neg (mt hgate.mp hrun)

/-- The out-of-service gate and the flap scoring (R9, R10, R37). -/
theorem State.judgeItem_eq (s : State) (a : Nat) (status : Status) :
    let scored := s.modRecord a (scoreRecord (s.classOf a) s.now status)
    let told (kind : NoticeKind) := scored.requestFromRecord kind a (scored.record a).dependents
    ((s.record a).condition = .outOfService → s.judgeItem a status = s) ∧
    ((s.record a).condition ≠ .outOfService →
      ((scored.record a).flapping = (s.record a).flapping → s.judgeItem a status = scored.runMachine a status) ∧
      ((s.record a).flapping = false → (scored.record a).flapping = true →
        s.judgeItem a status = (told .flap).runMachine a status) ∧
      ((s.record a).flapping = true → (scored.record a).flapping = false →
        s.judgeItem a status = (told .flapEnd).runMachine a status)) := by
  intro scored told
  refine ⟨fun hout => if_pos hout, fun hin => ?_⟩
  have hscore : s.judgeItem a status = (if (scored.record a).flapping = (s.record a).flapping then scored
      else told (if (s.record a).flapping = true then .flapEnd else .flap)).runMachine a status := if_neg hin
  rw [hscore]
  refine ⟨fun hsame => ?_, fun hbefore hafter => ?_, fun hbefore hafter => ?_⟩
  · rw [if_pos hsame]
  · simp [hbefore, hafter]
  · simp [hbefore, hafter]

/-- An OK item runs the machine's OK side, and any other its other side, with the severity it gives (R11, R12). -/
theorem State.runMachine_eq (s : State) (a : Nat) (status : Status) :
    (status = .ok → s.runMachine a status = s.machineOk a) ∧
    (status ≠ .ok → s.runMachine a status = s.machineNotOk a (if status = .degraded then .minor else .major)) := by
  cases status with
  | ok => exact ⟨fun _ => rfl, fun h => absurd rfl h⟩
  | degraded | failed => exact ⟨nofun, fun _ => rfl⟩

/-- A count of OK items below P, and one that reaches it (R11, R18). -/
theorem State.recover_eq (s : State) (a run : Nat) :
    (run < (s.classOf a).restoreCount →
      s.recover a run = s.modRecord a fun r => { r with condition := .recovering, run := run }) ∧
    ((s.classOf a).restoreCount ≤ run → s.recover a run =
      (s.modRecord a fun r => { r with condition := .recovering, run := (s.classOf a).restoreCount }).attemptRestore a) := by
  refine ⟨fun h => ?_, fun h => ?_⟩
  · simp only [State.recover, Nat.min_eq_left h.le, if_neg (Nat.not_le.mpr h)]
  · simp only [State.recover, Nat.min_eq_right h, if_pos h]

/-- A count of non-OK items below Q, and one that reaches it (R11, R13). -/
theorem State.suspect_eq (s : State) (a run : Nat) (v : Severity) :
    (run < (s.classOf a).qualifyCount →
      s.suspect a run v = s.modRecord a fun r => { r with condition := .suspect, run := run }) ∧
    ((s.classOf a).qualifyCount ≤ run → s.suspect a run v = s.qualify a .fault v .out) :=
  ⟨fun h => if_neg (Nat.not_le.mpr h), fun h => if_pos h⟩

/-- The OK side of the machine, by condition (R11). -/
theorem State.machineOk_eq (s : State) (a : Nat) :
    ((s.record a).condition = .unknown ∨ (s.record a).condition = .normal ∨ (s.record a).condition = .suspect →
      s.machineOk a = s.modRecord a fun r => { r with condition := .normal, run := 0 }) ∧
    ((s.record a).condition = .fault ∨ (s.record a).condition = .silent → s.machineOk a = s.recover a 1) ∧
    ((s.record a).condition = .recovering → s.machineOk a = s.recover a ((s.record a).run + 1)) := by
  refine ⟨?_, ?_, fun h => ?_⟩
  · rintro (h | h | h) <;> simp only [State.machineOk, h]
  · rintro (h | h) <;> simp only [State.machineOk, h]
  · simp only [State.machineOk, h]

/-- The other side of the machine, by condition (R11). -/
theorem State.machineNotOk_eq (s : State) (a : Nat) (v : Severity) :
    ((s.record a).condition = .unknown ∨ (s.record a).condition = .normal → s.machineNotOk a v = s.suspect a 1 v) ∧
    ((s.record a).condition = .suspect → s.machineNotOk a v = s.suspect a ((s.record a).run + 1) v) ∧
    ((s.record a).faulted = true → s.machineNotOk a v = s.takeSeverity a v) := by
  refine ⟨?_, fun h => ?_, fun h => ?_⟩
  · rintro (h | h) <;> simp only [State.machineNotOk, h]
  · simp only [State.machineNotOk, h]
  · rcases (s.record a).faulted_iff.mp h with h | h | h <;> simp only [State.machineNotOk, h]

/-- When a standing fault requests CHANGED (R11, R12). -/
theorem State.takeSeverity_eq (s : State) (a : Nat) (v : Severity) :
    let deepened := s.modRecord a fun r => { r with condition := .fault, run := 0, severity := v }
    ((s.record a).cause = none → ((s.record a).severity ≠ v ∨ (s.record a).condition = .silent) →
      s.takeSeverity a v = deepened.requestAsset .changed a .fault v none (s.record a).dependents) ∧
    ((s.record a).cause ≠ none ∨ (s.record a).severity = v ∧ (s.record a).condition ≠ .silent →
      s.takeSeverity a v = deepened) := by
  intro deepened
  refine ⟨fun hcause hchange => if_pos ⟨hchange, hcause⟩, fun hkeep => if_neg ?_⟩
  rintro ⟨hchange, hcause⟩
  rcases hkeep with hkeep | ⟨hsame, hheard⟩
  · exact hkeep hcause
  · exact hchange.elim (absurd hsame) hheard

end

/-- Settles O44: the gates, the scoring, and the machine by the item's side and the record's condition. -/
theorem conditionMachineFollowsTheTable : Obligations.ConditionMachineFollowsTheTable := by
  unfold Obligations.ConditionMachineFollowsTheTable
  refine ⟨fun s a n i status => s.processItem_eq a n i status, fun s a status => s.judgeItem_eq a status,
    fun s a status => ?_, fun s a status => ?_⟩
  · intro r q p put
    obtain ⟨hok, hnot⟩ := s.runMachine_eq a status
    obtain ⟨hnormal, hstanding, hrecovering⟩ := s.machineOk_eq a
    refine ⟨fun hst => ?_, fun hst => ?_⟩
    · rw [hok hst]
      exact ⟨hnormal, fun hc hp => (hstanding hc).trans ((s.recover_eq a 1).1 hp),
        fun hc hp => (hrecovering hc).trans ((s.recover_eq a _).1 hp)⟩
    · rw [hnot hst]
      obtain ⟨hfresh, hsuspect, -⟩ := s.machineNotOk_eq a (if status = .degraded then .minor else .major)
      exact ⟨fun hc hq => (hfresh hc).trans ((s.suspect_eq a 1 _).1 hq),
        fun hc hq => (hsuspect hc).trans ((s.suspect_eq a _ _).1 hq)⟩
  · intro r q p severity deepened
    obtain ⟨hok, hnot⟩ := s.runMachine_eq a status
    obtain ⟨-, hstanding, hrecovering⟩ := s.machineOk_eq a
    refine ⟨fun hst => ?_, fun hst => ?_⟩
    · rw [hnot hst]
      obtain ⟨hfresh, hsuspect, hfaulted⟩ := s.machineNotOk_eq a severity
      obtain ⟨htold, hkept⟩ := s.takeSeverity_eq a severity
      exact ⟨fun hc hq => (hfresh hc).trans ((s.suspect_eq a 1 _).2 hq),
        fun hc hq => (hsuspect hc).trans ((s.suspect_eq a _ _).2 hq),
        fun hf => ⟨fun hcause hchange => (hfaulted hf).trans (htold hcause hchange), fun hk => (hfaulted hf).trans (hkept hk)⟩⟩
    · rw [hok hst]
      refine ⟨fun hc hp => (hstanding hc).trans ?_, fun hc hp => (hrecovering hc).trans ((s.recover_eq a _).2 hp)⟩
      have hp : (s.classOf a).restoreCount = 1 := hp
      have hreach := (s.recover_eq a 1).2 hp.le
      rw [hp] at hreach
      exact hreach

/-! ### The Sweep Queue's operations (R50, R53, R60, R61, R66) -/

section
variable {s : State}

/-- The jobs of a queue with its first job started (R53). -/
theorem State.startFirst_jobs (s : State) (js : List SweepJob) :
    { s with sweep.jobs := js }.startFirst = { s with sweep.jobs := match js with
      | [] => []
      | j :: rest => (if j.state = .waiting then ⟨j.walk, .running, s.board.head?, 0⟩ else j) :: rest } := by
  cases js with
  | nil => rfl
  | cons j rest =>
    simp only [State.startFirst]
    split <;> rfl

/-- A job is queued when one of the jobs makes its walk. -/
theorem State.hasJob_iff_exists (s : State) (w : Walk) : s.hasJob w = true ↔ ∃ j ∈ s.sweep.jobs, j.walk = w := by
  simp [State.hasJob]

/-- The queue is full at 8 jobs (R49). -/
theorem State.sweepFull_iff_jobs (s : State) : s.sweepFull = true ↔ 8 ≤ s.sweep.jobs.length := by
  rw [State.sweepFull_iff, State.walks, List.length_map]

theorem State.endAdopt_absent {root : Nat} (h : Walk.adopt root ∉ s.walks) : s.endAdopt root = s :=
  if_neg (mt (s.hasJob_iff _).mp h)

/-- The end of an ADOPT job that is the only one of its root (R60, R61). -/
theorem State.endAdopt_only {root : Nat} {before after : List SweepJob} {j : SweepJob}
    (hjobs : s.sweep.jobs = before ++ j :: after) (hj : j.walk = .adopt root)
    (honly : ∀ i ∈ before ++ after, i.walk ≠ .adopt root) :
    let removed := { s with sweep.jobs := before ++ after }.startFirst
    s.endAdopt root = if 0 < j.tally then removed.requestAsset .adopted root (s.record root).condition
      (s.record root).severity (s.record root).cause j.tally else removed := by
  intro removed
  obtain ⟨hbefore, hafter⟩ := List.forall_mem_append.mp honly
  have hhas : s.hasJob (.adopt root) = true := (s.hasJob_iff_exists _).mpr ⟨j, by simp [hjobs], hj⟩
  have htally : s.adoptTally root = j.tally := by
    have hnone : before.find? (fun j => decide (j.walk = .adopt root)) = none :=
      List.find?_eq_none.mpr fun i hi => by simpa using hbefore i hi
    simp [State.adoptTally, hjobs, List.find?_append, hnone, hj]
  have hkept : s.sweep.jobs.filter (fun j => decide (j.walk ≠ .adopt root)) = before ++ after := by
    have hb := List.filter_eq_self.mpr fun i hi => decide_eq_true (hbefore i hi)
    have ha := List.filter_eq_self.mpr fun i hi => decide_eq_true (hafter i hi)
    rw [hjobs, List.filter_append, List.filter_cons_of_neg (by simp [hj]), hb, ha]
  have hremoved : s.removeJob (.adopt root) = removed := by rw [State.removeJob, hkept]
  have hrecord : removed.record root = s.record root := State.record_congr (by simp [removed]) root
  rw [State.endAdopt, if_pos hhas]
  simp only [htally, hremoved, State.requestFromRecord, hrecord]

theorem State.adopt_not_mem_joinJob {root : Nat} (h : Walk.adopt root ∉ s.walks) :
    Walk.adopt root ∉ (s.joinJob (.release root)).walks := by
  rw [State.joinJob, State.startFirst_walks]
  simpa [State.walks, waitingJob] using h

/-- No ADOPT job of a root stands beside its RELEASE once that is queued (R50). -/
theorem State.adopt_not_mem_queueRelease (s : State) (root : Nat) :
    Walk.adopt root ∉ (s.queueRelease root).walks := by
  simp only [State.queueRelease]
  split
  · next h =>
    refine State.adopt_not_mem_joinJob ?_
    rw [State.endAdopt_walks ((s.hasJob_iff _).mp h)]
    simp
  · next h =>
    have hnone := mt (s.hasJob_iff _).mpr h
    split
    · exact hnone
    · exact State.adopt_not_mem_joinJob hnone

/-- A RELEASE request is refused without a job of the root and without a place (R50). -/
theorem State.releaseRefused_iff (s : State) (root : Nat) : s.releaseRefused root = true ↔
    8 ≤ s.sweep.jobs.length ∧ ∀ j ∈ s.sweep.jobs, j.walk ≠ .adopt root ∧ j.walk ≠ .release root := by
  have hnot (w : Walk) : (!s.hasJob w) = true ↔ ∀ j ∈ s.sweep.jobs, j.walk ≠ w := by simp [State.hasJob]
  simp only [State.releaseRefused, Bool.and_eq_true, hnot, State.sweepFull_iff_jobs]
  exact ⟨fun ⟨⟨ha, hr⟩, hfull⟩ => ⟨hfull, fun j hj => ⟨ha j hj, hr j hj⟩⟩,
    fun ⟨hfull, hidle⟩ => ⟨⟨fun j hj => (hidle j hj).1, fun j hj => (hidle j hj).2⟩, hfull⟩⟩

end

/-! ### The restore (R19 to R21) -/

section
variable {s : State} {a : Nat}

/-- A change that keeps condition and latch keeps those of a NORMAL record. -/
theorem State.modRecord_normal (h : (s.record a).condition = .normal) (b : Nat) {f : FaultRecord → FaultRecord}
    (hf : ∀ r, (f r).condition = r.condition ∧ (f r).latch = r.latch) :
    ((s.modRecord b f).record a).condition = .normal ∧ ((s.modRecord b f).record a).latch = (s.record a).latch := by
  obtain ⟨hcondition, hlatch⟩ := hf (s.record a)
  by_cases hb : a = b
  · subst hb
    have hne : f (s.record a) ≠ clearRecord := fun hclear => by
      rw [hclear, h] at hcondition
      exact nomatch hcondition
    rw [State.modRecord_eq, State.record_setRecord_of_ne _ hne]
    exact ⟨hcondition.trans h, hlatch⟩
  · rw [State.modRecord_eq, State.record_setRecord_ne _ _ hb]
    exact ⟨h, rfl⟩

/-- A NORMAL record freed from its cause stays NORMAL, and keeps its latch. -/
theorem State.unattribute_normal (h : (s.record a).condition = .normal) :
    ((s.unattribute a).record a).condition = .normal ∧ ((s.unattribute a).record a).latch = (s.record a).latch := by
  cases hcause : (s.record a).cause with
  | none =>
    rw [State.unattribute, hcause]
    exact ⟨h, rfl⟩
  | some root =>
    obtain ⟨hfirst, hfirstLatch⟩ := State.modRecord_normal h a (f := fun r => { r with cause := none }) fun _ => ⟨rfl, rfl⟩
    obtain ⟨hnormal, hlatch⟩ := State.modRecord_normal hfirst root (f := fun r => { r with dependents := r.dependents - 1 })
      fun _ => ⟨rfl, rfl⟩
    rw [State.unattribute_some hcause]
    exact ⟨hnormal, hlatch.trans hfirstLatch⟩

/-- A record not faulted leaves the list by its latch alone (R73). -/
theorem State.leaveUnlessListed_unfaulted (h : (s.record a).faulted = false) :
    s.leaveUnlessListed a = if (s.record a).latch = .held then s else s.leave a := by
  simp [State.leaveUnlessListed, FaultRecord.listed, h]

@[simp] theorem State.leaveUnlessListed_walks (s : State) (a : Nat) : (s.leaveUnlessListed a).walks = s.walks := by
  simp only [State.leaveUnlessListed]
  split
  · rfl
  · exact s.leave_walks a

/-- The record `a` NORMAL, with run 0 and severity none (R20). -/
def State.normalled (s : State) (a : Nat) : State :=
  s.setRecord a { s.record a with condition := .normal, run := 0, severity := .none }

/-- A restore settles the attribution of `a` in `t`, by the record it had in `s` (R20). -/
def State.restoreSettled (s : State) (a : Nat) (t : State) : State :=
  if (s.record a).cause = none then
    { t with correlator.independentCount := t.correlator.independentCount - 1 }.requestAsset
      .restored a .normal (s.record a).severity none (s.record a).dependents
  else t.unattribute a

/-- A restored record keeps its place on the list by its latch (R21). -/
def State.restoreListed (s : State) (a : Nat) (t : State) : State :=
  if (s.record a).latch = .held then t else t.leave a

theorem State.record_normalled (s : State) (a : Nat) : (s.normalled a).record a =
    { s.record a with condition := .normal, run := 0, severity := .none } :=
  State.record_setRecord_of_ne _ (by simp [clearRecord]) a

/-- The end of a restore, of a record that is NORMAL in `t` with its latch of `s`. -/
theorem State.settleRestored_listed {t : State} (hnormal : (t.record a).condition = .normal)
    (hlatch : (t.record a).latch = (s.record a).latch) :
    (t.settleRestored a (s.record a).severity (s.record a).dependents (s.record a).cause.isNone).leaveUnlessListed a =
      s.restoreListed a (s.restoreSettled a t) := by
  have hsettled : t.settleRestored a (s.record a).severity (s.record a).dependents (s.record a).cause.isNone =
      s.restoreSettled a t := by
    simp only [State.settleRestored, Option.isNone_iff_eq_none]
    rfl
  have hread : ((s.restoreSettled a t).record a).condition = .normal ∧
      ((s.restoreSettled a t).record a).latch = (s.record a).latch := by
    simp only [State.restoreSettled]
    split
    · rw [State.record_congr (s := t) (by simp)]
      exact ⟨hnormal, hlatch⟩
    · obtain ⟨hn, hl⟩ := State.unattribute_normal hnormal
      exact ⟨hn, hl.trans hlatch⟩
  rw [hsettled, State.leaveUnlessListed_unfaulted (by rw [FaultRecord.faulted, hread.1]; rfl), hread.2]
  rfl

/-- A restore with dependents, whose RELEASE takes the place of a queued ADOPT (R20). -/
theorem State.restore_release (h : 0 < (s.record a).dependents) :
    s.restore a = s.restoreListed a (s.restoreSettled a ((s.normalled a).queueRelease a)) := by
  have hread : ((s.normalled a).queueRelease a).record a = _ :=
    (State.record_congr (by simp) a).trans (s.record_normalled a)
  have hlisted := State.settleRestored_listed (s := s) (t := (s.normalled a).queueRelease a) (a := a)
    (by rw [hread]) (by rw [hread])
  have hrestore : s.restore a = (s.restoreListed a (s.restoreSettled a ((s.normalled a).queueRelease a))).endAdopt a := by
    rw [← hlisted]
    simp only [State.restore, if_pos h]
    rfl
  rw [hrestore, State.endAdopt_absent]
  rw [← hlisted, State.leaveUnlessListed_walks]
  simpa [State.walks] using ((s.normalled a).adopt_not_mem_queueRelease a)

/-- A restore without dependents, with a queued ADOPT cancelled last (R20, R61). -/
theorem State.restore_free (h : (s.record a).dependents = 0) :
    s.restore a = (s.restoreListed a (s.restoreSettled a (s.normalled a))).endAdopt a := by
  rw [← State.settleRestored_listed (s := s) (t := s.normalled a) (a := a) (by rw [s.record_normalled])
    (by rw [s.record_normalled])]
  simp only [State.restore, if_neg (Nat.not_lt.mpr h.le)]
  rfl

@[simp] theorem State.restoreListed_walks (s : State) (a : Nat) (t : State) : (s.restoreListed a t).walks = t.walks := by
  simp only [State.restoreListed]
  split
  · rfl
  · exact t.leave_walks a

@[simp] theorem State.restoreSettled_walks (s : State) (a : Nat) (t : State) : (s.restoreSettled a t).walks = t.walks := by
  simp only [State.restoreSettled, State.walks]
  split <;> simp

end

/-- Settles O45: the restore held, free and with dependents, and the queue's operations. -/
theorem restoreSettlesTheRecord : Obligations.RestoreSettlesTheRecord := by
  unfold Obligations.RestoreSettlesTheRecord
  refine ⟨fun s a => ?_, fun s a _ => ?_, fun s root w => ?_⟩
  · intro r idle normal told freed
    have hfree (hd : r.dependents = 0) (hidle : idle) :
        s.attemptRestore a = s.restoreListed a (s.restoreSettled a (s.normalled a)) := by
      rw [State.attemptRestore, if_neg fun h => h.1.ne' hd, State.restore_free hd, State.endAdopt_absent]
      rw [State.restoreListed_walks, State.restoreSettled_walks]
      intro hadopt
      obtain ⟨j, hj, hw⟩ := List.mem_map.mp hadopt
      exact (hidle j hj).1 hw
    refine ⟨fun hd hidle hfull => if_pos ⟨hd, (s.releaseRefused_iff a).mpr ⟨hfull, hidle⟩⟩, fun hd hidle hcause => ?_,
      fun hd hidle hcause => ?_⟩
    · have htold : s.restoreSettled a (s.normalled a) = told := by
        rw [State.restoreSettled, if_pos hcause, show (s.record a).dependents = 0 from hd]
        rfl
      rw [hfree hd hidle, htold]
      exact ⟨fun hl => if_pos hl, fun hl => if_neg (by simp [r] at hl; simp [hl])⟩
    · have hfreed : s.restoreSettled a (s.normalled a) = freed := if_neg hcause
      rw [hfree hd hidle, hfreed]
      exact ⟨fun hl => if_pos hl, fun hl => if_neg (by simp [r] at hl; simp [hl])⟩
  · intro r noPlace normal settled listed
    refine ⟨fun hd hplace => ?_, fun hd => ?_⟩
    · rw [State.attemptRestore, if_neg fun h => hplace ((s.releaseRefused_iff a).mp h.2), State.restore_release hd]
      rfl
    · rw [State.attemptRestore, if_neg fun h => h.1.ne' hd, State.restore_free hd]
      rfl
  · intro started joined queued
    have hqueued (w : Walk) : s.hasJob w = true ↔ queued w := s.hasJob_iff_exists w
    have hjoin (w : Walk) : s.joinJob w = joined w := s.startFirst_jobs _
    refine ⟨hjoin w, s.startFirst_jobs _, fun h => if_pos ((hqueued _).mpr h), fun h hfull => ?_, fun h hroom => ?_,
      fun h => if_pos ((hqueued _).mpr h), fun h hr => ?_, fun h hr => ?_, fun h => if_pos ((hqueued _).mpr h),
      fun h => if_neg (mt (hqueued _).mp h), fun h => if_neg (mt (hqueued _).mp h), fun before j after hjobs hj honly => ?_⟩
    · exact (if_neg (mt (hqueued _).mp h)).trans (if_pos (s.sweepFull_iff_jobs.mpr hfull))
    · rw [← hjoin]
      exact (if_neg (mt (hqueued _).mp h)).trans (if_neg (mt s.sweepFull_iff_jobs.mp (Nat.not_le.mpr hroom)))
    · exact (if_neg (mt (hqueued _).mp h)).trans (if_pos ((hqueued _).mpr hr))
    · rw [← hjoin]
      exact (if_neg (mt (hqueued _).mp h)).trans (if_neg (mt (hqueued _).mp hr))
    · intro removed
      have hend := State.endAdopt_only hjobs hj honly
      rw [State.startFirst_jobs] at hend
      exact ⟨fun ht => hend.trans (if_neg (Nat.not_lt.mpr ht.le)), fun ht => hend.trans (if_pos ht)⟩

end Sys2Proof.Machine

namespace Sys2Proof.Machine

/-! ## The record and list commands (04_the_active_fault_list.md, R73 to R77; 01, R22 to R28) -/

/-! ### What the three bodies do with an asset (R176) -/

theorem assetArgument_eq (vector tag hi lo : Byte) (rest : Bytes) :
    assetArgument (vector :: tag :: hi :: lo :: rest) = hi.toNat * 256 + lo.toNat := numAt_two hi lo rest

/-- A latch cleared leaves the agent alone. -/
theorem State.clearLatch_agent (s : State) (a : Nat) : (s.clearLatch a).agent = s.agent := by simp [State.clearLatch]

/-! ### QUERY ASSET -/

/-- A payload of vector 16 is QUERY ASSET's. -/
theorem commandRow_queryAsset (tag : Byte) (args : Bytes) : commandRow (16#8 :: tag :: args) = .queryAsset := by
  simp [commandRow, byteAt]

theorem exec_queryAsset {s : State} {tag : Byte} {args : Bytes} (h : s.executes (16#8 :: tag :: args)) :
    exec .queryAsset s = .next (queryAssetBody (16#8 :: tag :: args) s).settle := by
  rw [← State.runRow_executes h (commandRow_queryAsset tag args)]
  rfl

/-- QUERY ASSET in READY: its range test, then its reply (R77, R176). -/
theorem queryAssetBody_ready {s : State} (h : s.correlator.state = .ready) (tag hi lo flag : Byte) :
    let a := hi.toNat * 256 + lo.toNat
    queryAssetBody [16#8, tag, hi, lo, flag] s =
      if s.tables.assetCount ≤ a ∨ 1 < flag.toNat then refuse s .range
      else .reply (if flag.toNat = 1 ∧ (s.record a).latch = .held then s.clearLatch a else s) .done
        (assetResults (s.asset a) ++ recordResults (s.record a)) := by
  intro a
  simp only [queryAssetBody, assetArgument_eq, argumentLength_eq]
  simp [arguments, byteAt, State.isAsset, isFlag, s.ready_iff.mpr h, a]

/-- The record's bytes, with the presence bytes written out (R174, R184). -/
theorem recordResults_eq (r : FaultRecord) : recordResults r =
    byte1 (conditionCode r.condition) ++ byte1 (severityCode r.severity) ++ byte1 r.run ++ indexBytes r.cause
      ++ byte2 r.dependents ++ byte1 (if r.latch = .held then 1 else 0) ++ byte1 (lastStatusCode r.lastStatus)
      ++ byte1 r.lastDetail ++ flagByte r.lastValue.isSome ++ byte2 (r.lastValue.getD 0)
      ++ presentBytes byte4 r.lastHeard ++ flagByte r.lastSource.isSome ++ byte1 (r.lastSource.getD 0)
      ++ presentBytes byte4 r.qualifiedAt ++ presentBytes byte4 r.joinedAt ++ byte2 r.flapScore ++ byte4 r.flapStamp
      ++ flagByte r.flapping ++ presentBytes byte4 r.testUntil := by
  simp only [recordResults, latchCode_eq, presentBytes, List.append_assoc]

/-- Settles O33: the range test and the two replies, and the bytes of an entry and a record. -/
theorem queryAssetReadsThenClears : Obligations.QueryAssetReadsThenClears := by
  unfold Obligations.QueryAssetReadsThenClears
  refine ⟨fun s tag hi lo flag he hready => ?_, fun e r => ?_⟩
  · intro p a fields
    obtain ⟨-, -, hagent⟩ := id he
    have hcleared : (s.clearLatch a).agent.state = .executing p := by rw [State.clearLatch_agent]; exact hagent
    rw [exec_queryAsset he, queryAssetBody_ready hready]
    refine ⟨fun hout => ?_, fun ha hflag => ?_, fun ha hflag hheld => ?_⟩
    · rw [if_pos hout, refuse_settle hagent]
    · have hin : ¬ (s.tables.assetCount ≤ a ∨ 1 < flag.toNat) := by
        rcases hflag with rfl | ⟨rfl, -⟩ <;> simpa using ha
      have hkeep : ¬ (flag.toNat = 1 ∧ (s.record a).latch = .held) := by
        rcases hflag with rfl | ⟨-, hclear⟩
        · simp
        · simp [hclear]
      rw [if_neg hin, if_neg hkeep, Ending.settle_reply hagent]
    · have hin : ¬ (s.tables.assetCount ≤ a ∨ 1 < flag.toNat) := by
        subst hflag
        simpa using ha
      rw [if_neg hin, if_pos ⟨by rw [hflag]; rfl, hheld⟩, Ending.settle_reply hcleared]
  · intro one two four index flag time status
    have hstatus : lastStatusCode r.lastStatus = status := by
      rcases hl : r.lastStatus with _ | (_ | _ | _) <;> simp [status, hl, lastStatusCode]
    refine ⟨?_, ?_⟩
    · exact congrArg (· ++ flag e.inhibit) (List.append_assoc _ [_] (two e.address.toNat)).symm
    · rw [recordResults_eq, hstatus]
      rfl

/-! ### ACK FAULT and the cleared latch -/

/-- A payload of vector 18 is ACK FAULT's. -/
theorem commandRow_ackFault (tag : Byte) (args : Bytes) : commandRow (18#8 :: tag :: args) = .ackFault := by
  simp [commandRow, byteAt]

theorem exec_ackFault {s : State} {tag : Byte} {args : Bytes} (h : s.executes (18#8 :: tag :: args)) :
    exec .ackFault s = .next (ackFaultBody (18#8 :: tag :: args) s).settle := by
  rw [← State.runRow_executes h (commandRow_ackFault tag args)]
  rfl

/-- ACK FAULT in READY: its range test, then its test of the latch (R76, R176). -/
theorem ackFaultBody_ready {s : State} (h : s.correlator.state = .ready) (tag hi lo : Byte) :
    let a := hi.toNat * 256 + lo.toNat
    ackFaultBody [18#8, tag, hi, lo] s =
      if s.tables.assetCount ≤ a then refuse s .range
      else if (s.record a).latch = .clear then refuse s .state else done (s.clearLatch a) := by
  intro a
  simp only [ackFaultBody, assetArgument_eq, argumentLength_eq]
  simp [State.isAsset, s.ready_iff.mpr h, a]

/-- The successor of an entry, by its place on the list (R1). -/
theorem successorIn_of_first {before after : List Nat} {a : Nat} (h : a ∉ before) :
    successorIn (before ++ a :: after) a = after.head? := by
  induction before with
  | nil => simp [successorIn]
  | cons x before ih =>
    obtain ⟨hx, hrest⟩ : a ≠ x ∧ a ∉ before := by simpa using h
    simpa [successorIn, Ne.symm hx] using ih hrest

/-- A record on the list leaves it, and the walks that stood on it step past it (R56, R73). -/
theorem State.leave_listed {s : State} {a : Nat} (h : a ∈ s.board) : s.leave a = { s with
    board := s.board.erase a
    sweep.jobs := s.sweep.jobs.map fun j => j.stepPast a (s.successor a) } := if_pos h

section
variable {s : State} (w : Table.wf clearRecord s.correlator.records) (a : Nat)
include w

/-- A latch cleared writes the record, and the list is left by what it then is (R75). -/
theorem State.clearLatch_eq :
    let cleared := s.setRecord a { s.record a with latch := .clear }
    s.clearLatch a = if (s.record a).faulted = true then cleared else cleared.leave a := by
  intro cleared
  have hread : cleared.record a = { s.record a with latch := .clear } := State.record_setRecord_self w a _
  have hlisted : (cleared.record a).listed = (s.record a).faulted := by
    rw [hread]
    simp [FaultRecord.listed, FaultRecord.faulted]
  change cleared.leaveUnlessListed a = _
  rw [State.leaveUnlessListed, hlisted]

end

/-- Settles O35: the command's three answers, the cleared latch, and the departure from the list. -/
theorem ackFaultAndTheClearedLatch : Obligations.AckFaultAndTheClearedLatch := by
  unfold Obligations.AckFaultAndTheClearedLatch
  refine ⟨fun s tag hi lo he hready => ?_, fun s a hs => ?_, fun s a => ⟨fun h => if_neg h, fun before after hboard hfirst => ?_⟩⟩
  · intro p a
    obtain ⟨-, -, hagent⟩ := id he
    have hcleared : (s.clearLatch a).agent.state = .executing p := by rw [State.clearLatch_agent]; exact hagent
    rw [exec_ackFault he, ackFaultBody_ready hready]
    refine ⟨fun hout => ?_, fun ha hl => ?_, fun ha hl => ?_⟩
    · rw [if_pos hout, refuse_settle hagent]
    · rw [if_neg (Nat.not_le.mpr ha), if_pos hl, refuse_settle hagent]
    · have hheld : ¬ (s.record a).latch = .clear := by simp [hl]
      rw [if_neg (Nat.not_le.mpr ha), if_neg hheld, done_settle hcleared]
  · intro cleared
    refine ⟨fun hf => (State.clearLatch_eq hs.records a).trans (if_pos hf), fun hf ha => ?_⟩
    rw [State.clearLatch_eq hs.records a, if_neg (by simp [hf]), State.leave_listed (by exact ha)]
    simp only [SweepJob.stepPast_eq]
    rfl
  · have hmem : a ∈ s.board := by simp [hboard]
    have hsuccessor : s.successor a = after.head? := by rw [State.successor, hboard, successorIn_of_first hfirst]
    have herase : s.board.erase a = before ++ after := by rw [hboard, List.erase_append_right _ hfirst, List.erase_cons_head]
    refine ⟨hsuccessor, ?_⟩
    rw [State.leave_listed hmem, herase, hsuccessor]
    rfl

/-! ### SET SERVICE -/

theorem commandRow_setServiceOut (tag hi lo direction : Byte) (h : direction.toNat ≠ 1) :
    commandRow [20#8, tag, hi, lo, direction] = .setServiceOut := by
  simp [commandRow, arguments, byteAt, h]

theorem commandRow_setServiceIn (tag hi lo : Byte) : commandRow [20#8, tag, hi, lo, 1#8] = .setServiceIn := by
  simp [commandRow, arguments, byteAt]

theorem exec_setServiceOut {s : State} {tag hi lo direction : Byte} (hd : direction.toNat ≠ 1)
    (h : s.executes [20#8, tag, hi, lo, direction]) :
    exec .setServiceOut s = .next (setServiceBody [20#8, tag, hi, lo, direction] s).settle := by
  rw [← State.runRow_executes h (commandRow_setServiceOut tag hi lo direction hd)]
  rfl

theorem exec_setServiceIn {s : State} {tag hi lo : Byte} (h : s.executes [20#8, tag, hi, lo, 1#8]) :
    exec .setServiceIn s = .next (setServiceBody [20#8, tag, hi, lo, 1#8] s).settle := by
  rw [← State.runRow_executes h (commandRow_setServiceIn tag hi lo)]
  rfl

/-- SET SERVICE in READY: its range test, then by its direction (R22, R24, R176). -/
theorem setServiceBody_ready {s : State} (h : s.correlator.state = .ready) (tag hi lo direction : Byte) :
    let a := hi.toNat * 256 + lo.toNat
    setServiceBody [20#8, tag, hi, lo, direction] s =
      if s.tables.assetCount ≤ a ∨ 1 < direction.toNat then refuse s .range
      else if direction.toNat = 0 then done (s.serviceOut a)
      else if (s.record a).condition ≠ .outOfService then refuse s .state
      else if 0 < (s.record a).dependents ∧ s.releaseRefused a then refuse s .busy
      else done (s.serviceIn a) := by
  intro a
  simp only [setServiceBody, assetArgument_eq, argumentLength_eq]
  simp [arguments, byteAt, State.isAsset, isFlag, s.ready_iff.mpr h, a]

section
variable {s : State} (w : Table.wf clearRecord s.correlator.records) (a : Nat)

/-- Independent, in the words of R3. -/
theorem FaultRecord.independent_iff (r : FaultRecord) : r.independent = true ↔ r.faulted = true ∧ r.cause = none := by
  simp [FaultRecord.independent]

/-- The way out of the attribution leaves the tables and the agent. -/
@[simp] theorem State.leaveAttribution_frame (s : State) (a : Nat) :
    (s.leaveAttribution a).tables = s.tables ∧ (s.leaveAttribution a).agent = s.agent := by
  simp only [State.leaveAttribution]
  split <;> simp

/-- The way out of the attribution in the words of R22. -/
theorem State.leaveAttribution_eq (s : State) (a : Nat) :
    s.leaveAttribution a = if (s.record a).faulted = true ∧ (s.record a).cause = none then
      { s with correlator.independentCount := s.correlator.independentCount - 1 } else s.unattribute a := by
  simp only [State.leaveAttribution, FaultRecord.independent_iff]
  rfl

include w in
/-- The way out of the attribution keeps the latch. -/
theorem State.leaveAttribution_latch : ((s.leaveAttribution a).record a).latch = (s.record a).latch := by
  simp only [State.leaveAttribution]
  split
  · rfl
  · cases hcause : (s.record a).cause with
    | none => rw [State.unattribute, hcause]
    | some root => rw [State.record_unattribute w hcause]

/-- The end of an ADOPT and the cancellation of a RELEASE keep every record. -/
theorem State.takeOut_records (s : State) (a b : Nat) :
    ((s.endAdopt a).cancelReleaseIfMasking a).record b = s.record b := State.record_congr (by simp) b

include w in
/-- SET SERVICE OUT of a record in service (R22). -/
theorem State.takeOut_eq :
    let freed := s.leaveAttribution a
    let out := (freed.setRecord a { freed.record a with condition := .outOfService, run := 0 }).endAdopt a
    let settled := if (s.classOf a).masking = true then out.cancelRelease a else out
    s.takeOut a = if (s.record a).latch = .held then settled else settled.leave a := by
  intro freed out settled
  set marked := freed.setRecord a { freed.record a with condition := .outOfService, run := 0 } with hmarked
  have hread : marked.record a = { freed.record a with condition := .outOfService, run := 0 } :=
    State.record_setRecord_of_ne _ (by simp [clearRecord]) a
  have hsame : out.record a = marked.record a := State.record_congr (by simp [out, hmarked]) a
  have hclass : out.classOf a = s.classOf a :=
    State.classOf_congr (by simp [out, freed]) a
  have hsettled : out.cancelReleaseIfMasking a = settled := by
    have hmasks : out.maskingFaulted a = (s.classOf a).masking := by
      rw [State.maskingFaulted, hsame, hread, hclass]
      simp
    rw [State.cancelReleaseIfMasking, hmasks]
  have hlast : settled.record a = { freed.record a with condition := .outOfService, run := 0 } := by
    rw [← hsettled, State.takeOut_records, hread]
  change (out.cancelReleaseIfMasking a).leaveUnlessListed a = _
  rw [hsettled, State.leaveUnlessListed_unfaulted (by rw [hlast]; rfl), hlast]
  rw [← State.leaveAttribution_latch w a]

include w in
/-- SET SERVICE IN of a record OUT_OF_SERVICE (R24). -/
theorem State.serviceIn_eq :
    let queued := if (s.record a).dependents = 0 then s else s.queueRelease a
    let back := queued.setRecord a { s.record a with condition := .unknown, run := 0, severity := .none }
    s.serviceIn a = if (s.record a).latch = .held then back else back.leave a := by
  intro queued back
  have hqueued : (if 0 < (s.record a).dependents then s.queueRelease a else s) = queued := by
    rw [← ite_not, if_congr (Nat.pos_iff_ne_zero.not_left) rfl rfl]
  have hrecords : queued.correlator.records = s.correlator.records := by
    rw [← hqueued]
    split <;> simp
  have hread : back.record a = { s.record a with condition := .unknown, run := 0, severity := .none } :=
    State.record_setRecord_self (hrecords ▸ w) a _
  have hback : queued.modRecord a (fun r => { r with condition := .unknown, run := 0, severity := .none }) = back := by
    rw [State.modRecord_eq, State.record_congr hrecords]
  simp only [State.serviceIn, hqueued, hback]
  rw [State.leaveUnlessListed_unfaulted (by rw [hread]; rfl), hread]

/-- Neither service command touches the agent while it executes. -/
theorem State.service_agent {p : Bytes} (h : s.agent.state = .executing p) :
    (s.serviceOut a).agent.state = .executing p ∧ (s.serviceIn a).agent.state = .executing p := by
  have hbusy {t : State} (ht : t.agent = s.agent) : t.agent.state ≠ .replyWaiting := by simp [ht, h]
  refine ⟨?_, ?_⟩
  · simp only [State.serviceOut, State.takeOut]
    split
    · exact h
    · have hleft : ((s.leaveAttribution a).modRecord a fun r =>
          { r with condition := .outOfService, run := 0 }).agent = s.agent := by simp
      simp [State.endAdopt_agent a (hbusy hleft), h]
  · simp only [State.serviceIn]
    split
    · simp [State.queueRelease_agent a (hbusy rfl), h]
    · simp [h]

end

/-- Settles O37: the two directions by the record's state, and the refusals of range. -/
theorem setServiceTakesOutAndReturns : Obligations.SetServiceTakesOutAndReturns := by
  unfold Obligations.SetServiceTakesOutAndReturns
  refine ⟨fun s tag hi lo he hready hs ha => ?_, fun s tag hi lo he hready hs ha => ?_,
    fun s tag hi lo direction he hready => ?_⟩
  · intro p a freed out settled
    obtain ⟨-, -, hagent⟩ := id he
    have hin : ¬ (s.tables.assetCount ≤ a ∨ 1 < (0#8 : Byte).toNat) := by simpa using ha
    have hfreed : s.leaveAttribution a = freed := s.leaveAttribution_eq a
    have hout := State.takeOut_eq hs.records a
    rw [hfreed] at hout
    have hdone := done_settle (State.service_agent a hagent).1
    rw [exec_setServiceOut (by decide) he, setServiceBody_ready hready, if_neg hin, if_pos (by decide), hdone,
      State.serviceOut]
    refine ⟨fun hc => by rw [if_pos hc], fun hc hl => ?_, fun hc hl => ?_⟩
    · rw [if_neg hc, hout, if_pos hl]
    · rw [if_neg hc, hout, if_neg (by simp [hl])]
  · intro p a r noPlace queued back
    obtain ⟨-, -, hagent⟩ := id he
    have hin : ¬ (s.tables.assetCount ≤ a ∨ 1 < (1#8 : Byte).toNat) := by simpa using ha
    have hdone := done_settle (State.service_agent a hagent).2
    have hback := State.serviceIn_eq hs.records a
    rw [exec_setServiceIn he, setServiceBody_ready hready, if_neg hin, if_neg (by decide)]
    have htaken (hc : r.condition = .outOfService) (hplace : r.dependents = 0 ∨ ¬ noPlace) :
        ¬ (s.record a).condition ≠ .outOfService ∧ ¬ (0 < (s.record a).dependents ∧ s.releaseRefused a) := by
      refine ⟨not_not.mpr hc, fun ⟨hd, hrefused⟩ => ?_⟩
      exact hplace.elim hd.ne' fun h => h ((s.releaseRefused_iff a).mp hrefused)
    refine ⟨fun hc => ?_, fun hc hd hfull => ?_, fun hc hplace hl => ?_, fun hc hplace hl => ?_⟩
    · rw [if_pos hc, refuse_settle hagent]
    · rw [if_neg (not_not.mpr hc), if_pos ⟨hd, (s.releaseRefused_iff a).mpr hfull⟩, refuse_settle hagent]
    · obtain ⟨hout, hroom⟩ := htaken hc hplace
      rw [if_neg hout, if_neg hroom, hdone, hback, if_pos hl]
    · obtain ⟨hout, hroom⟩ := htaken hc hplace
      rw [if_neg hout, if_neg hroom, hdone, hback, if_neg (by simp [r] at hl; simp [hl])]
  · intro p
    obtain ⟨-, -, hagent⟩ := id he
    have hbody := setServiceBody_ready hready tag hi lo direction
    have hrange (h : s.tables.assetCount ≤ hi.toNat * 256 + lo.toNat ∨ 1 < direction.toNat) :
        (setServiceBody p s).settle = s.answered p .range [] := by
      rw [hbody, if_pos h, refuse_settle hagent]
    refine ⟨fun h hd => ?_, fun h hd => ?_, fun hd => ?_⟩
    · rw [exec_setServiceOut (by simp [hd]) he, hrange (.inl h)]
    · subst hd
      rw [exec_setServiceIn he, hrange (.inl h)]
    · rw [exec_setServiceOut (by omega) he, hrange (.inr hd)]

end Sys2Proof.Machine

namespace Sys2Proof.Machine

/-! ## Restarts and LOAD BEGIN (11_the_management_agent.md, R182, R183) -/

theorem commandRow_restartClear (tag level : Byte) (h : level.toNat ≠ 1) : commandRow [5#8, tag, level] = .restartClear := by
  simp [commandRow, arguments, byteAt, h]

theorem commandRow_restartFull (tag : Byte) : commandRow [5#8, tag, 1#8] = .restartFull := by
  simp [commandRow, arguments, byteAt]

theorem commandRow_loadBegin (tag : Byte) (args : Bytes) : commandRow (8#8 :: tag :: args) = .loadBegin := by
  simp [commandRow, byteAt]

/-- RESTART's body by its level (R176, R182). -/
theorem restartBody_eq (s : State) (tag level : Byte) : restartBody [5#8, tag, level] s =
    if 1 < level.toNat then refuse s .range else .goesOn (s.beginRestart (decide (level.toNat = 1))) := by
  simp [restartBody, argumentLength, arguments, byteAt, isFlag]

theorem exec_restartClear {s : State} {tag level : Byte} (hl : level.toNat ≠ 1) (h : s.executes [5#8, tag, level]) :
    exec .restartClear s = .next (restartBody [5#8, tag, level] s).settle := by
  rw [← State.runRow_executes h (commandRow_restartClear tag level hl)]
  rfl

theorem exec_restartFull {s : State} {tag : Byte} (h : s.executes [5#8, tag, 1#8]) :
    exec .restartFull s = .next (s.beginRestart true) := by
  have hrun := State.runRow_executes h (commandRow_restartFull tag) restartBody
  rw [restartBody_eq, if_neg (by decide)] at hrun
  exact congrArg _ hrun

theorem exec_loadBegin {s : State} {tag : Byte} (h : s.executes [8#8, tag]) :
    exec .loadBegin s = .next (s.beginRestart true) := by
  have hrun := State.runRow_executes h (commandRow_loadBegin tag []) loadBeginBody
  exact congrArg _ hrun

/-- A restart that keeps the use of sources leaves the used ones WAITING and every other UNUSED (R152, R182). -/
theorem tableGet_clearedSources (t : LoadedTables) (n : Nat) : tableGet unusedSource (clearedSources t true) n =
    if n < 64 ∧ sourceUsed t n = true then { unusedSource with state := .waiting } else unusedSource := by
  obtain ⟨hwf, -⟩ := clearedSources_fits t true
  have hmem (e : SourceEntry) : (n, e) ∈ clearedSources t true ↔
      (n < 64 ∧ sourceUsed t n = true) ∧ { unusedSource with state := .waiting } = e := by
    simp [clearedSources, Config.sourceLimit, List.mem_filterMap, and_assoc]
  split
  · next hused => exact tableGet_of_mem hwf ((hmem _).mpr ⟨hused, rfl⟩)
  · next hunused =>
    rcases tableGet_mem unusedSource (clearedSources t true) n with hlisted | hnone
    · exact absurd ((hmem _).mp hlisted).1 hunused
    · exact hnone

/-- CLEARING_END of a restart in progress is its end, with the reply DONE. -/
theorem exec_clearingEnd {s : State} {toReady : Bool} (hreset : s.inReset = false)
    (hlong : s.agent.long = some (.clearing toReady)) :
    exec .clearingEnd s = .next ((s.endRestart toReady).finish .done []) := by
  simp [exec, execClearingEnd, hreset, State.clearingDone, hlong]

/-- Settles O27: the clearing act under each of the three commands, and both ends of CLEARING. -/
theorem restartsClearAndEnd : Obligations.RestartsClearAndEnd := by
  unfold Obligations.RestartsClearAndEnd
  refine ⟨fun s => ?_, fun s toReady hreset hlong => ?_⟩
  · intro cleared
    refine ⟨fun tag he hready => ⟨clearedSources s.tables true, ?_, tableGet_clearedSources s.tables⟩,
      fun tag he hother => ?_, fun tag he => exec_restartFull he, fun tag he => exec_loadBegin he,
      fun tag level he hlevel => ?_⟩
    · have hbegin : s.beginRestart false = cleared false true (clearedSources s.tables true) := by
        simp only [State.beginRestart, State.clearingAct, s.ready_iff.mpr hready]
        rfl
      rw [exec_restartClear (by decide) he, restartBody_eq, if_neg (by decide), ← hbegin]
      rfl
    · have hbegin : s.beginRestart false = cleared false false [] := by
        have hnot : s.ready = false := by simp [State.ready, hother]
        simp only [State.beginRestart, State.clearingAct, hnot]
        rfl
      rw [exec_restartClear (by decide) he, restartBody_eq, if_neg (by decide), ← hbegin]
      rfl
    · obtain ⟨-, -, hagent⟩ := id he
      rw [exec_restartClear (by omega) he, restartBody_eq, if_pos hlevel, refuse_settle hagent]
  · intro ended
    have hended : s.endRestart toReady = ended := by cases toReady <;> rfl
    have hagent : ended.agent.state = s.agent.state := by
      rw [← hended]
      cases toReady <;> rfl
    rw [exec_clearingEnd hreset hlong, hended]
    exact ⟨fun p hp => congrArg _ (Ending.settle_reply (hagent.trans hp) .done []),
      fun o n p hp => congrArg _ (State.finish_done_replaying (hagent.trans hp) [])⟩

end Sys2Proof.Machine

namespace Sys2Proof.Machine

/-! ## Table writes (08_loaded_tables.md, R127 to R140) -/

/-! ### The first failure, or none -/

/-- The entry at `i` is the first that fails its test, with `code` (R135). -/
def FailsAt (test : Bytes → Option ReplyStatus) (es : List Bytes) (i : Nat) (code : ReplyStatus) : Prop :=
  (∀ k < i, ∀ e, es[k]? = some e → test e = none) ∧ ∃ e, es[i]? = some e ∧ test e = some code

theorem firstFailure_of_failsAt {test : Bytes → Option ReplyStatus} {es : List Bytes} {i : Nat} {code : ReplyStatus}
    (h : FailsAt test es i code) (place : Nat) : firstFailure test place es = some (code, place + i) := by
  obtain ⟨hbefore, e, he, hcode⟩ := h
  induction es generalizing i place with
  | nil => simp at he
  | cons x es ih =>
    cases i with
    | zero =>
      obtain rfl : x = e := by simpa using he
      simp [firstFailure, hcode]
    | succ i =>
      have hrest := ih (i := i) (place + 1) (fun k hk y hy => hbefore (k + 1) (by omega) y (by simpa using hy))
        (by simpa using he)
      simp only [firstFailure, hbefore 0 (by omega) x rfl, hrest]
      congr 2
      omega

theorem firstFailure_none {test : Bytes → Option ReplyStatus} {es : List Bytes} (h : ∀ e ∈ es, test e = none)
    (place : Nat) : firstFailure test place es = none := by
  induction es generalizing place with
  | nil => rfl
  | cons e es ih =>
    obtain ⟨he, hes⟩ := List.forall_mem_cons.mp h
    simpa only [firstFailure, he] using ih hes (place + 1)

/-- A table write by its entries' tests, as the agent answers it (R135). -/
theorem tableWrite_settle {s w : State} {p : Bytes} (hs : s.agent.state = .executing p) (hw : w.agent = s.agent)
    (test : Bytes → Option ReplyStatus) (es : List Bytes) :
    (∀ i code, FailsAt test es i code → (tableWrite s es test w).settle = s.answered p code [BitVec.ofNat 8 (i + 1)]) ∧
    ((∀ e ∈ es, test e = none) → (tableWrite s es test w).settle = w.answered p .done []) := by
  refine ⟨fun i code h => ?_, fun h => ?_⟩
  · rw [tableWrite, firstFailure_of_failsAt h, Nat.add_comm 1 i]
    exact Ending.settle_reply hs code _
  · rw [tableWrite, firstFailure_none h]
    exact done_settle (by rw [hw]; exact hs)

/-! ### Runs adjusted (R5) -/

theorem State.adjustRuns_closed {s : State} (h : s.correlator.state ≠ .ready) (before : State) :
    s.adjustRuns before = s := if_neg (mt s.ready_iff.mp h)

/-- The run adjustment by the record's condition (R5). -/
theorem adjustRun_cases (old new : ClassEntry) (r : FaultRecord) :
    let suspect := r.condition = .suspect ∧ new.qualifyCount ≠ old.qualifyCount ∧ new.qualifyCount ≤ r.run
    let recovering := r.condition = .recovering ∧ new.restoreCount ≠ old.restoreCount ∧ new.restoreCount ≤ r.run
    (suspect → adjustRun old new r = { r with run := new.qualifyCount - 1 }) ∧
    (recovering → adjustRun old new r = { r with run := new.restoreCount - 1 }) ∧
    (¬ suspect → ¬ recovering → adjustRun old new r = r) := by
  intro suspect recovering
  refine ⟨fun ⟨hc, hne, hle⟩ => if_pos ⟨hc, hne.symm, hle⟩, fun ⟨hc, hne, hle⟩ => ?_, fun hs hr => ?_⟩
  · exact (if_neg (by simp [hc])).trans (if_pos ⟨hc, hne.symm, hle⟩)
  · exact (if_neg fun ⟨hc, hne, hle⟩ => hs ⟨hc, hne.symm, hle⟩).trans (if_neg fun ⟨hc, hne, hle⟩ => hr ⟨hc, hne.symm, hle⟩)

/-! ### CLASS WRITE -/

theorem commandRow_classWrite (tag : Byte) (args : Bytes) : commandRow (10#8 :: tag :: args) = .classWrite := by
  simp [commandRow, byteAt]

/-- CLASS WRITE of 21 bytes: its state, then its one entry (R135, R137). -/
theorem exec_classWrite {s : State} {tag : Byte} {e : Bytes} (h : s.executes (10#8 :: tag :: e)) (hlen : e.length = 21) :
    exec .classWrite s = .next (if s.tablesOpen = true then tableWrite s [e] s.classTest ((s.putClass e).adjustRuns s)
      else refuse s .state).settle := by
  have hrun := State.runRow_executes h (commandRow_classWrite tag e) classWriteBody
  have hbody : classWriteBody (10#8 :: tag :: e) s = if s.tablesOpen = true then
      tableWrite s [e] s.classTest ((s.putClass e).adjustRuns s) else refuse s .state := by
    simp only [classWriteBody, argumentLength, arguments, List.drop_succ_cons, List.drop_zero, hlen]
    cases s.tablesOpen <;> simp
  rw [← hbody, ← hrun]
  rfl

/-- The test of a CLASS WRITE entry, by what it finds (R136, R137). -/
theorem State.classTest_eq (s : State) (e : Bytes) :
    let moves := s.correlator.state = .ready ∧
      ∃ c, s.loadedClass (classIndex e) = some c ∧ c.masking ≠ (classEntryOf e).masking
    (classInRange e = false → s.classTest e = some .range) ∧
    (classInRange e = true → moves → s.classTest e = some .state) ∧
    (classInRange e = true → ¬ moves → s.classTest e = none) := by
  intro moves
  refine ⟨fun hout => by simp [State.classTest, hout], fun hin ⟨hready, c, hc, hmoves⟩ => ?_, fun hin hkeeps => ?_⟩
  · simp [State.classTest, hin, s.ready_iff.mpr hready, hc, hmoves]
  · by_cases hready : s.correlator.state = .ready
    · cases hc : s.loadedClass (classIndex e) with
      | none => simp [State.classTest, hin, hc]
      | some c =>
        have hsame : c.masking = (classEntryOf e).masking := by
          by_contra hne
          exact hkeeps ⟨hready, c, hc, hne⟩
        simp [State.classTest, hin, hc, hsame]
    · have hnot := mt s.ready_iff.mp hready
      simp [State.classTest, hin, hnot]

/-- The fields of a class entry of 21 bytes (R131, R176). -/
theorem classEntryOf_bytes {e : Bytes} (h : e.length = 21) :
    let one := byteAt e
    let two := fun i => byteAt e i * 256 + byteAt e (i + 1)
    let mark := fun k => (byteAt e 8).testBit k
    classEntryOf e = ⟨one 1, one 2, two 3, one 5, one 6, one 7, mark 0, mark 1, mark 2, mark 3, mark 4, mark 5, two 9, two 11,
      two 13, two 15, two 17, two 19⟩ := by
  have hpair {i : Nat} (hi : i + 1 < 21) : numAt e i 2 = byteAt e i * 256 + byteAt e (i + 1) := numAt_pair (by omega)
  simp only [classEntryOf, hpair (i := 3) (by decide), hpair (i := 9) (by decide), hpair (i := 11) (by decide),
    hpair (i := 13) (by decide), hpair (i := 15) (by decide), hpair (i := 17) (by decide), hpair (i := 19) (by decide)]
  rfl

/-- Settles O30: the command's answers by its entry's test, the run adjustment, and the entry's bytes. -/
theorem classWriteWritesOneClass : Obligations.ClassWriteWritesOneClass := by
  unfold Obligations.ClassWriteWritesOneClass
  refine ⟨fun s tag e he hlen => ?_, fun s before hs => ⟨fun h => State.adjustRuns_closed h before, fun hready => ?_⟩,
    fun e hlen => ?_, fun s a c hc => ?_⟩
  · intro p isOpen moves written
    obtain ⟨-, -, hagent⟩ := id he
    obtain ⟨hrange, hmoves, hpasses⟩ := s.classTest_eq e
    obtain ⟨hfail, hdone⟩ := tableWrite_settle (w := (s.putClass e).adjustRuns s) hagent (by simp) s.classTest [e]
    have hfirst {code : ReplyStatus} (h : s.classTest e = some code) : FailsAt s.classTest [e] 0 code := ⟨nofun, e, rfl, h⟩
    rw [exec_classWrite he hlen]
    refine ⟨fun hclosed => ?_, fun hopen hout => ?_, fun hopen hin hmove => ?_, fun hin hload => ?_, fun hin hready hkeeps => ?_⟩
    · rw [if_neg (mt s.tablesOpen_iff.mp hclosed), refuse_settle hagent]
    · rw [if_pos (s.tablesOpen_iff.mpr hopen), hfail 0 .range (hfirst (hrange hout))]
    · rw [if_pos (s.tablesOpen_iff.mpr hopen), hfail 0 .state (hfirst (hmoves hin hmove))]
    · have hnone := hpasses hin fun ⟨hready, _⟩ => nomatch hload.symm.trans hready
      rw [if_pos (s.tablesOpen_iff.mpr (.inl hload)), hdone (by simpa using hnone),
        State.adjustRuns_closed (s := s.putClass e) (fun hready => nomatch hload.symm.trans hready)]
      rfl
    · rw [if_pos (s.tablesOpen_iff.mpr (.inr hready)), hdone (by simpa using hpasses hin hkeeps)]
      rfl
  · refine ⟨_, if_pos (s.ready_iff.mpr hready), fun a => ?_⟩
    rw [tableGet_tableMap hs.records (fun a r => adjustRun (before.classOf a) (s.classOf a) r) (fun _ => rfl) a]
    exact adjustRun_cases ..
  · intro one two mark
    have hentry := classEntryOf_bytes hlen
    refine ⟨rfl, hentry, ?_⟩
    rw [classInRange, hentry]
    simp only [ClassEntry.inRange, Bool.and_eq_true, decide_eq_true_eq, and_assoc]
    rfl
  · simp [State.classOf, State.loadedClass, State.asset, hc]

/-! ### TEMPLATE WRITE, ASSET WRITE and TRUNK WRITE -/

theorem commandRow_templateWrite (tag : Byte) (args : Bytes) : commandRow (11#8 :: tag :: args) = .templateWrite := by
  simp [commandRow, byteAt]

theorem commandRow_assetWrite (tag : Byte) (args : Bytes) : commandRow (12#8 :: tag :: args) = .assetWrite := by
  simp [commandRow, byteAt]

theorem commandRow_trunkWrite (tag : Byte) (args : Bytes) : commandRow (13#8 :: tag :: args) = .trunkWrite := by
  simp [commandRow, byteAt]

/-- Whole entries, at least one and at most `most`, have an allowed length (R176). -/
theorem entryLengthOk_of {size most : Nat} {args : Bytes} (hsize : 0 < size) (hwhole : args.length % size = 0)
    (hlow : size ≤ args.length) (hhigh : args.length ≤ most * size) : entryLengthOk size most args = true := by
  have hone : 1 ≤ args.length / size := (Nat.one_le_div_iff hsize).mpr hlow
  have hmost : args.length / size ≤ most := Nat.div_le_of_le_mul (Nat.mul_comm most size ▸ hhigh)
  simp [entryLengthOk, hwhole, hone, hmost]

section
variable {s : State} {tag : Byte} {args : Bytes} (hopen : s.correlator.state = .loading ∨ s.correlator.state = .ready)
include hopen

theorem exec_templateWrite (h : s.executes (11#8 :: tag :: args)) (hlength : entryLengthOk 10 16 args = true) :
    exec .templateWrite s = .next (tableWrite s (entriesOf 10 args) templateTest
      ((entriesOf 10 args).foldl State.putTemplate s)).settle := by
  have hbody : templateWriteBody (11#8 :: tag :: args) s = tableWrite s (entriesOf 10 args) templateTest
      ((entriesOf 10 args).foldl State.putTemplate s) := by
    simp [templateWriteBody, arguments, hlength, s.tablesOpen_iff.mpr hopen]
  rw [← hbody, ← State.runRow_executes h (commandRow_templateWrite tag args)]
  rfl

theorem exec_assetWrite (h : s.executes (12#8 :: tag :: args)) (hlength : entryLengthOk 8 29 args = true) :
    exec .assetWrite s = .next (tableWrite s (entriesOf 8 args) s.assetTest
      (((entriesOf 8 args).foldl State.putAsset s).adjustRuns s)).settle := by
  have hbody : assetWriteBody (12#8 :: tag :: args) s = tableWrite s (entriesOf 8 args) s.assetTest
      (((entriesOf 8 args).foldl State.putAsset s).adjustRuns s) := by
    simp [assetWriteBody, arguments, hlength, s.tablesOpen_iff.mpr hopen]
  rw [← hbody, ← State.runRow_executes h (commandRow_assetWrite tag args)]
  rfl

theorem exec_trunkWrite (h : s.executes (13#8 :: tag :: args)) (hlength : entryLengthOk 7 16 args = true) :
    exec .trunkWrite s = .next (tableWrite s (entriesOf 7 args) s.trunkTest
      (((entriesOf 7 args).foldl State.putTrunk s).followUse s)).settle := by
  have hbody : trunkWriteBody (13#8 :: tag :: args) s = tableWrite s (entriesOf 7 args) s.trunkTest
      (((entriesOf 7 args).foldl State.putTrunk s).followUse s) := by
    simp [trunkWriteBody, arguments, hlength, s.tablesOpen_iff.mpr hopen]
  rw [← hbody, ← State.runRow_executes h (commandRow_trunkWrite tag args)]
  rfl

end

/-- The entries written leave the agent. -/
theorem State.writes_agent (s : State) (es : List Bytes) :
    (es.foldl State.putTemplate s).agent = s.agent ∧ ((es.foldl State.putAsset s).adjustRuns s).agent = s.agent ∧
      ((es.foldl State.putTrunk s).followUse s).agent = s.agent := by
  obtain ⟨sources, hused⟩ := s.followUse_putTrunks es
  rw [State.foldl_putTemplate, hused, State.foldl_putAsset]
  simp

/-! ### The entries of a command and their bytes (R135, R176) -/

/-- The entries are the consecutive pieces of the arguments. -/
theorem entriesOf_getElem? {size i : Nat} {args : Bytes} (h : i < args.length / size) :
    ∃ e, (entriesOf size args)[i]? = some e ∧ e.length = size ∧ ∀ k < size, e[k]? = args[i * size + k]? := by
  refine ⟨(args.drop (i * size)).take size, by simp [entriesOf, h], ?_, fun k hk => ?_⟩
  · have hwithin : (i + 1) * size ≤ args.length :=
      (Nat.mul_le_mul_right size h).trans (Nat.div_mul_le_self _ _)
    rw [List.length_take, List.length_drop]
    rw [Nat.add_mul, Nat.one_mul] at hwithin
    omega
  · rw [List.getElem?_take_of_lt hk, List.getElem?_drop]

/-- A test of a decidable range, as it answers. -/
theorem ite_range_congr {b : Bool} {P : Prop} [Decidable P] (h : b = true ↔ P) :
    (if b = true then none else some ReplyStatus.range) = if P then none else some .range := if_congr h rfl rfl

/-- The range of a valid trunk entry, within the asset count where one is given (R136). -/
theorem TrunkRun.inRange_iff (r : TrunkRun) (limit : Option Nat) : r.inRange limit = true ↔
    r.base < 32768 ∧ 1 ≤ r.length ∧ r.length ≤ 1024 ∧ ∀ n ∈ limit, r.base + r.length ≤ n := by
  have hlimit : (limit.elim true fun n => decide (r.base + r.length ≤ n)) = true ↔ ∀ n ∈ limit, r.base + r.length ≤ n := by
    cases limit <;> simp
  simp only [TrunkRun.inRange, Bool.and_eq_true, decide_eq_true_eq, and_assoc, hlimit]
  rfl

/-- The range of a trunk entry of 7 bytes (R127, R136). -/
theorem trunkInRange_iff {e : Bytes} (h : e.length = 7) (limit : Option Nat) :
    let one := byteAt e
    let two := fun i => byteAt e i * 256 + byteAt e (i + 1)
    trunkInRange limit e = true ↔ one 0 ≤ 63 ∧ one 1 ≤ 15 ∧ one 2 ≤ 1 ∧ (one 2 = 1 → two 3 < 32768 ∧ 1 ≤ two 5 ∧
      two 5 ≤ 1024 ∧ ∀ n ∈ limit, two 3 + two 5 ≤ n) := by
  intro one two
  have hbase : numAt e 3 2 = two 3 := numAt_pair (by omega)
  have hlength : numAt e 5 2 = two 5 := numAt_pair (by omega)
  have hrun : trunkOf e = if one 2 = 1 then some ⟨two 3, two 5⟩ else none := by rw [trunkOf, hbase, hlength]
  simp only [trunkInRange, hrun, Bool.and_eq_true, decide_eq_true_eq, isFlag, and_assoc]
  by_cases hvalid : one 2 = 1
  · simp [hvalid, TrunkRun.inRange_iff, trunkSource, trunkChannel, one]
  · simp [hvalid, trunkSource, trunkChannel, one]

/-! ### The use of sources (R129) -/

/-- A source is used when one of its 16 entries is valid (R129). -/
theorem sourceUsed_iff (t : LoadedTables) (n : Nat) :
    sourceUsed t n = true ↔ ∃ channel < 16, tableGet none t.trunks (n * 16 + channel) ≠ none := by
  simp [sourceUsed, trunkEntry, Option.isSome_iff_ne_none]

/-- The change of a source's use by what it was and is (R129, R152). -/
theorem useChange_cases (before after : LoadedTables) (n : Nat) (e : SourceEntry) :
    ((sourceUsed after n = true ↔ sourceUsed before n = true) → useChange before after n e = e) ∧
    (sourceUsed after n = true → ¬ sourceUsed before n = true → useChange before after n e = e.restart .waiting) ∧
    (¬ sourceUsed after n = true → sourceUsed before n = true → useChange before after n e = e.restart .unused) := by
  refine ⟨fun h => if_pos (Bool.eq_iff_iff.mpr h.symm), fun ha hb => ?_, fun ha hb => ?_⟩
  · exact (if_neg fun he => hb (he.trans ha)).trans (if_pos ha)
  · exact (if_neg fun he => ha (he.symm.trans hb)).trans (if_neg ha)

/-- Settles O31: the three commands by their entries' tests, the entries' bytes, the use of sources, and the pieces of the
arguments. -/
theorem tableWritesAreAllOrNothing : Obligations.TableWritesAreAllOrNothing := by
  unfold Obligations.TableWritesAreAllOrNothing
  refine ⟨fun s tag args hopen => ?_, fun s e => ?_, fun s before hs => ?_,
    fun size args hsize => ⟨by simp [entriesOf], fun i hi => entriesOf_getElem? hi⟩⟩
  · intro refusedAt
    refine ⟨fun he hwhole hlow hhigh => ?_, fun he hwhole hlow hhigh => ?_, fun he hwhole hlow hhigh => ?_⟩
    · obtain ⟨-, -, hagent⟩ := id he
      obtain ⟨hput, -, -⟩ := s.writes_agent (entriesOf 10 args)
      rw [exec_templateWrite hopen he (entryLengthOk_of (by decide) hwhole hlow hhigh)]
      obtain ⟨hfail, hdone⟩ := tableWrite_settle hagent hput templateTest (entriesOf 10 args)
      exact ⟨fun i code h => congrArg _ (hfail i code h), fun h => congrArg _ (hdone h)⟩
    · obtain ⟨-, -, hagent⟩ := id he
      obtain ⟨-, hput, -⟩ := s.writes_agent (entriesOf 8 args)
      rw [exec_assetWrite hopen he (entryLengthOk_of (by decide) hwhole hlow hhigh)]
      obtain ⟨hfail, hdone⟩ := tableWrite_settle hagent hput s.assetTest (entriesOf 8 args)
      exact ⟨fun i code h => congrArg _ (hfail i code h), fun h => congrArg _ (hdone h)⟩
    · obtain ⟨-, -, hagent⟩ := id he
      obtain ⟨-, -, hput⟩ := s.writes_agent (entriesOf 7 args)
      rw [exec_trunkWrite hopen he (entryLengthOk_of (by decide) hwhole hlow hhigh)]
      obtain ⟨hfail, hdone⟩ := tableWrite_settle hagent hput s.trunkTest (entriesOf 7 args)
      exact ⟨fun i code h => congrArg _ (hfail i code h), fun h => congrArg _ (hdone h)⟩
  · intro one two three template run
    refine ⟨fun hlen => ?_, fun hlen => ?_⟩
    · have hbase : numAt e 2 3 = three 2 := numAt_triple (by omega)
      have hmask : numAt e 5 3 = three 5 := numAt_triple (by omega)
      refine ⟨ite_range_congr ?_, ?_⟩
      · simp only [templateInRange, isFlag, Bool.and_eq_true, decide_eq_true_eq, and_assoc, hbase, hmask]
        rfl
      · rw [State.putTemplate, templateOf, hbase, hmask]
        rfl
    · have hbase : numAt e 3 2 = two 3 := numAt_pair (by omega)
      have hlength : numAt e 5 2 = two 5 := numAt_pair (by omega)
      refine ⟨ite_range_congr ?_, ?_⟩
      · refine (trunkInRange_iff hlen _).trans ?_
        by_cases hready : s.correlator.state = .ready
        · simp [hready, s.ready_iff.mpr hready, one, two]
        · simp [hready, mt s.ready_iff.mp hready, one, two]
      · rw [State.putTrunk, trunkOf, hbase, hlength]
        rfl
  · intro uses
    have hused (t : LoadedTables) (n : Nat) : sourceUsed t n = true ↔ uses t n := sourceUsed_iff t n
    refine ⟨fun h => if_neg (mt s.ready_iff.mp h), fun hready => ⟨_, _, if_pos (s.ready_iff.mpr hready), fun n => ?_⟩,
      hused s.tables⟩
    intro e fresh
    obtain ⟨hkept, hgained, hlost⟩ := useChange_cases before.tables s.tables n e
    simp only [hused] at hkept hgained hlost
    rw [tableGet_changeSources _ hs.sources]
    refine ⟨fun hsame => ?_, fun hn hnow hbefore => ?_, fun hn hnow hbefore => ?_⟩
    · split
      · exact hkept hsame
      · rfl
    · rw [if_pos hn]
      exact hgained hnow hbefore
    · rw [if_pos hn]
      exact hlost hnow hbefore

end Sys2Proof.Machine

namespace Sys2Proof.Machine

/-! ## Reports and dispatch frames (09_field_link_and_source_supervision.md, R154 to R157; 10_frames_and_ports.md, R160 to
R165) -/

/-! ### An accepted report -/

/-- The frames lost since a known sequence are the difference modulo 256 (R31, R154). -/
theorem lostBefore_some {x q : Nat} (hq : q < 256) (hx : x < 256) :
    lostBefore (some x) q = if x ≤ q then q - x else q + 256 - x := by
  simp only [lostBefore]
  split <;> omega

/-- A source's entry after an accepted report, field by field (R154, R155). -/
theorem SourceEntry.accept_eq (e : SourceEntry) {q : Nat} (hq : q < 256) (now : Nat) : e.accept q now = { e with
      expected := some (if q = 255 then 0 else q + 1)
      lastAccepted := some q
      lastFrameTime := some now
      framesAccepted := min 65535 (e.framesAccepted + 1)
      lostFrames := min 65535 (e.lostFrames + lostBefore e.expected q)
      state := if e.state = .waiting ∨ e.state = .silent then .alive else e.state
      restoredAt := if e.state = .waiting ∨ e.state = .silent then some now else e.restoredAt } := by
  have hnext : (q + 1) % 256 = if q = 255 then 0 else q + 1 := by split <;> omega
  rw [SourceEntry.accept, hnext]
  cases e.state <;> simp [SourceEntry.hear, countUp, Config.countTop]

/-- An accepted report updates its source, and a SILENT one asks for SOURCE_BACK (R154, R155). -/
theorem State.acceptReport_eq (s : State) (n q : Nat) :
    let updated := s.modSource n fun e => e.accept q s.agent.time
    ((s.source n).state ≠ .silent → s.acceptReport n q = updated) ∧
    ((s.source n).state = .silent → s.acceptReport n q = updated.arrive (s.sourceNotice .sourceBack n .normal .none)) :=
  ⟨fun h => if_neg (by simpa using h), fun h => if_pos (by simpa using h)⟩

/-! ### The items of a report -/

/-- A point maps to an asset when a valid run of its source and channel holds it, below the asset count (R128). -/
theorem mapPoint_eq_some_iff {t : LoadedTables} {source channel point a : Nat} :
    mapPoint t source channel point = some a ↔ ∃ run : TrunkRun,
      tableGet none t.trunks (source * 16 + channel) = some run ∧ point < run.length ∧ a = run.base + point ∧
        a < t.assetCount := by
  simp only [mapPoint, trunkEntry]
  cases tableGet none t.trunks (source * 16 + channel) with
  | none => simp
  | some run =>
    simp only [Option.ite_none_right_eq_some, Option.some.injEq, exists_eq_left']
    constructor
    · rintro ⟨⟨hpoint, hcount⟩, rfl⟩
      exact ⟨hpoint, rfl, hcount⟩
    · rintro ⟨hpoint, rfl, hcount⟩
      exact ⟨⟨hpoint, hcount⟩, rfl⟩

/-- An item by its status and its point (R157). -/
theorem State.takeItem_eq (s : State) (n channel : Nat) (i : Item) :
    (i.status = none →
      s.takeItem n channel i = s.modSource n fun e => { e with malformedItems := countUp e.malformedItems 1 }) ∧
    (i.status ≠ none → mapPoint s.tables n channel i.point = none →
      s.takeItem n channel i = s.modSource n fun e => { e with unmappedItems := countUp e.unmappedItems 1 }) ∧
    ∀ status a, i.status = some status → mapPoint s.tables n channel i.point = some a →
      s.takeItem n channel i = s.processItem a i status n := by
  refine ⟨fun h => by simp only [State.takeItem, h], fun h hnone => ?_, fun status a h hmaps => ?_⟩
  · obtain ⟨status, h⟩ := Option.ne_none_iff_exists'.mp h
    simp only [State.takeItem, h, hnone]
  · simp only [State.takeItem, h, hmaps]

/-- A payload of fewer than five bytes holds no item (R160). -/
theorem itemsOf_short {bytes : Bytes} (h : bytes.length < 5) : itemsOf bytes = [] := by
  match bytes with
  | [] | [_] | [_, _] | [_, _, _] | [_, _, _, _] => rfl
  | _ :: _ :: _ :: _ :: _ :: _ =>
    simp only [List.length_cons] at h
    omega

/-- The statuses of an item's two bits (R160). -/
theorem itemStatus_codes (code : Nat) : (code = 0 → itemStatus code = some .ok) ∧
    (code = 1 → itemStatus code = some .degraded) ∧ (code = 2 → itemStatus code = some .failed) ∧
    (code = 3 → itemStatus code = none) := by
  refine ⟨?_, ?_, ?_, ?_⟩ <;> rintro rfl <;> rfl

/-- The fields of an item's five bytes (R160). -/
theorem itemOf_eq (high low detail v1 v2 : Byte) :
    let word := high.toNat * 256 + low.toNat
    itemOf high low detail v1 v2 = ⟨word % 1024, itemStatus (word / 1024 % 4), detail.toNat,
      if word < 32768 then none else some (v1.toNat * 256 + v2.toNat)⟩ := by
  intro word
  have hpair (a b : Byte) : bigEndian [a, b] = a.toNat * 256 + b.toNat := by simp [bigEndian]
  have hword : word < 65536 := by
    have hhigh := high.isLt
    have hlow := low.isLt
    omega
  have hpresent : word / 32768 % 2 = 1 ↔ ¬ word < 32768 := by omega
  simp only [itemOf, hpair]
  congr 1
  exact (if_congr hpresent rfl rfl).trans (ite_not ..)

/-- Settles O13: the source's entry, the items by status and point, and an item's bytes. -/
theorem acceptedReportUpdatesItsSource : Obligations.AcceptedReportUpdatesItsSource := by
  unfold Obligations.AcceptedReportUpdatesItsSource
  refine ⟨fun s n q hq hx => ?_, fun s n channel i rest => ?_, fun short => itemsOf_short,
    fun high low detail v1 v2 rest => ?_⟩
  · intro e lost heard updated
    have hlost : lostBefore e.expected q = lost := by
      have hx : ∀ x, e.expected = some x → x < 256 := hx
      cases hexpected : e.expected with
      | none => simp only [lost, hexpected, lostBefore]
      | some x => simp only [lost, hexpected, lostBefore_some hq (hx x hexpected)]
    have hheard : e.accept q s.agent.time = heard := by
      rw [e.accept_eq hq, hlost]
    have hupdated : (s.modSource n fun e => e.accept q s.agent.time) = updated := by rw [State.modSource, hheard]
    obtain ⟨hkept, hback⟩ := s.acceptReport_eq n q
    rw [hupdated] at hkept hback
    have hne : heard ≠ unusedSource := fun h => nomatch congrArg SourceEntry.lastAccepted h
    exact ⟨hkept, hback, tableGet_tableSet_of_ne _ _ n hne, fun m hm => tableGet_tableSet_ne _ _ _ hm⟩
  · intro e put maps
    have hmaps (a : Nat) : mapPoint s.tables n channel i.point = some a ↔ maps a := mapPoint_eq_some_iff
    obtain ⟨hmalformed, hunmapped, hmapped⟩ := s.takeItem_eq n channel i
    exact ⟨rfl, rfl, hmalformed,
      fun h hnone => hunmapped h (Option.eq_none_iff_forall_ne_some.mpr fun a ha => hnone a ((hmaps a).mp ha)),
      fun status a h ha => hmapped status a h ((hmaps a).mpr ha)⟩
  · intro word
    refine ⟨itemOf high low detail v1 v2, rfl, ?_⟩
    rw [itemOf_eq]
    exact ⟨rfl, rfl, rfl, itemStatus_codes _⟩

/-! ### A frame on the D-port -/

/-- With the receivers enabled a frame that did not begin early is received. -/
theorem exec_dPortFrameReceived_enabled {s : State} (hreset : s.inReset = false) (hinit : s.correlator.state ≠ .init)
    (f : Bytes) : exec (.dPortFrameReceived ⟨f, false⟩) s = .next (s.receiveDispatch f) := by
  rw [exec_dPortFrameReceived, if_pos ⟨s.receiving_iff.mpr ⟨hreset, hinit⟩, rfl⟩]

/-- A frame that is not good is kept and counted alone. -/
theorem State.receiveDispatch_bad {s : State} {f : Bytes} (h : judge f ≠ .good) :
    s.receiveDispatch f = s.countDispatch f (judge f) := if_neg h

/-- A good frame is kept, counted and handed on. -/
theorem State.receiveDispatch_good {s : State} {f : Bytes} (h : judge f = .good) :
    s.receiveDispatch f = (s.countDispatch f .good).handDispatch f := by
  simp [State.receiveDispatch, h]

/-- A good frame by its kind and node (R165). -/
theorem State.handDispatch_eq (s : State) (f : Bytes) :
    (frameKind f = 2 → s.handDispatch f = s.handCommand f) ∧
    (frameKind f = 4 → frameNode f = s.straps.node → s.handDispatch f = s.queueCommand f) ∧
    (frameKind f = 4 → frameNode f ≠ s.straps.node → s.handDispatch f = s.forwardDown f) ∧
    ((frameKind f = 1 ∨ frameKind f = 3 ∨ frameKind f = 5) → s.handDispatch f =
      { s with dport.counters.wrongDirection := countUp s.dport.counters.wrongDirection 1 }) := by
  have hmgmt (h : frameKind f = 4) : s.handDispatch f =
      if frameNode f = s.straps.node then s.queueCommand f else s.forwardDown f := by
    simp [State.handDispatch, h, kindCommand, kindMgmt]
  refine ⟨fun h => if_pos h, fun h hnode => (hmgmt h).trans (if_pos hnode), fun h hnode => (hmgmt h).trans (if_neg hnode), ?_⟩
  rintro (h | h | h) <;> simp [State.handDispatch, h, kindCommand, kindMgmt]

/-- A MGMT frame of the part by the room in the Command Queue (R172). -/
theorem State.queueCommand_eq (s : State) (f : Bytes) :
    (s.agent.queue.length < 4 → s.queueCommand f = { s with agent.queue := s.agent.queue ++ [f] }.takeCommand) ∧
    (4 ≤ s.agent.queue.length → s.queueCommand f = { s with agent.overruns := countUp s.agent.overruns 1 }) :=
  ⟨fun h => if_neg (Nat.not_le.mpr h), fun h => if_pos h⟩

/-- An IDLE agent takes the first waiting command (R173). -/
theorem State.takeCommand_eq (s : State) :
    (s.agent.state ≠ .idle ∨ s.agent.queue = [] → s.takeCommand = s) ∧
    ∀ f rest, s.agent.state = .idle → s.agent.queue = f :: rest →
      s.takeCommand = { s with agent.state := .executing (framePayload f), agent.queue := rest } := by
  refine ⟨fun h => ?_, fun f rest hidle hqueue => by simp [State.takeCommand, hidle, hqueue]⟩
  simp only [State.takeCommand]
  split
  · next hidle hqueue => simp [hidle, hqueue] at h
  · rfl

/-! ### A TEST COMMAND -/

/-- A TEST detection by what its point maps to (R25). -/
theorem State.detectTest_eq (s : State) (f : Bytes) :
    let mapped := mapPoint s.tables (frameNode f) (frameChannel f) (numAt (framePayload f) 1 2 % 1024)
    (∀ a, s.correlator.state = .ready → mapped = some a → 0 < (s.classOf a).testHoldoff → s.detectTest f =
      s.setRecord a { s.record a with testUntil := some (min 4294967295 (s.agent.time + (s.classOf a).testHoldoff)) }) ∧
    ((s.correlator.state ≠ .ready ∨ ∀ a, mapped = some a → (s.classOf a).testHoldoff = 0) → s.detectTest f = s) := by
  intro mapped
  refine ⟨fun a hready ha hholdoff => ?_, fun h => ?_⟩
  · rw [State.detectTest, if_pos (s.ready_iff.mpr hready)]
    simp only [show mapPoint s.tables (frameNode f) (frameChannel f) (numAt (framePayload f) 1 2 % 1024) = some a from ha]
    exact if_pos hholdoff
  · simp only [State.detectTest]
    split
    · next hready =>
      have hnone := h.resolve_left (not_not.mpr (s.ready_iff.mp hready))
      split
      · rfl
      · next a ha => exact if_neg (by simp [hnone a ha])
    · rfl

/-- A TEST payload in the words of R161. -/
theorem isTest_iff (p : Bytes) : isTest p = true ↔ 3 ≤ p.length ∧ byteAt p 0 = 0x54 := by
  simp only [isTest, Bool.and_eq_true, decide_eq_true_eq]
  rfl

/-- Settles O14: a frame by its judgement, kind and node, a TEST by its point, and the taking of a command. -/
theorem dispatchFrameIsHandedOnByKind : Obligations.DispatchFrameIsHandedOnByKind := by
  unfold Obligations.DispatchFrameIsHandedOnByKind
  refine ⟨fun f s hreset hinit => ?_, fun f s hreset hinit hgood hkind => ?_, fun s => s.takeCommand_eq⟩
  · intro kept counted
    rw [exec_dPortFrameReceived_enabled hreset hinit]
    refine ⟨fun h => ?_, fun h => ?_, fun h => ?_⟩
    · rw [State.receiveDispatch_bad (by simp [h]), h]
      rfl
    · rw [State.receiveDispatch_bad (by simp [h]), h]
      rfl
    · have hcounted : s.countDispatch f .good = counted := rfl
      obtain ⟨-, hown, hother, hwrong⟩ := counted.handDispatch_eq f
      obtain ⟨hjoins, hoverrun⟩ := counted.queueCommand_eq f
      rw [State.receiveDispatch_good h, hcounted]
      exact ⟨fun hk => congrArg _ (hwrong hk), fun hk hnode => congrArg _ (hother hk hnode),
        fun hk hnode hroom => congrArg _ ((hown hk hnode).trans (hjoins hroom)),
        fun hk hnode hfull => congrArg _ ((hown hk hnode).trans (hoverrun hfull))⟩
  · intro counted p point mapped test
    have hcounted : s.countDispatch f .good = counted := rfl
    rw [exec_dPortFrameReceived_enabled hreset hinit, State.receiveDispatch_good hgood, hcounted,
      (counted.handDispatch_eq f).1 hkind]
    have hinspected : counted.downHasPlace ∧ isTest p = true ↔
        s.fport.down.length < 16 ∧ 3 ≤ p.length ∧ byteAt p 0 = 0x54 := by
      rw [isTest_iff]
      exact and_congr_left' (State.downHasPlace_iff (s := counted))
    set forwarded := counted.forwardDown f with hforwarded
    have hready : forwarded.correlator.state = s.correlator.state := by simp [hforwarded, counted]
    have htime : forwarded.agent.time = s.agent.time := by simp [hforwarded, counted]
    have hclass (a : Nat) : forwarded.classOf a = s.classOf a := State.classOf_congr (by simp [hforwarded, counted]) a
    have hrecord (a : Nat) : forwarded.record a = s.record a := State.record_congr (by simp [hforwarded, counted]) a
    have htables : forwarded.tables = s.tables := by simp [hforwarded, counted]
    have hmapped (hlen : 3 ≤ p.length) (a : Nat) : mapPoint forwarded.tables (frameNode f) (frameChannel f)
        (numAt (framePayload f) 1 2 % 1024) = some a ↔ mapped a := by
      have hpoint : numAt (framePayload f) 1 2 % 1024 = point := congrArg (· % 1024) (numAt_pair (by exact hlen))
      rw [htables, hpoint]
      exact mapPoint_eq_some_iff
    obtain ⟨hset, hnothing⟩ := forwarded.detectTest_eq f
    simp only [hready, htime, hclass, hrecord] at hset hnothing
    have hhanded : counted.handCommand f =
        if counted.downHasPlace ∧ isTest p = true then forwarded.detectTest f else forwarded := rfl
    rw [hhanded]
    refine ⟨fun a ⟨hplace, hlen, hcode, hr⟩ ha hholdoff => ?_, fun h => ?_⟩
    · rw [if_pos (hinspected.mpr ⟨hplace, hlen, hcode⟩), hset a hr ((hmapped hlen a).mpr ha) hholdoff]
    · split
      · next hseen =>
        obtain ⟨hplace, hlen, hcode⟩ := hinspected.mp hseen
        refine congrArg _ (hnothing (h.imp (fun hno hr => hno ⟨hplace, hlen, hcode, hr⟩) fun hzero a ha => ?_))
        exact hzero a ((hmapped hlen a).mp ha)
      · rfl

end Sys2Proof.Machine
